-- ==== Sys2Proof/Word.lean ====
section
/-!
DEFINITION. The word types: a byte of the stream (00_scope.md R10 item 1) and the exact number a
real-valued operation answers with (43_waveform_reconstructor.md R222, decision D11).
-/

namespace Sys2Proof

/-- "an unsigned 8-bit value, 0 to 255", bit 0 the least significant (R9, R10 item 1). -/
abbrev Byte := BitVec 8

/-- An exact real number as plain data: a rational part, and terms `(c, a)` that each stand for
`c * sinc a * sinc (a / 3)` (40 R115, R116), offsets `a` rising and no `c` zero.  `BSPLINE3` needs the
rational part alone (R114 (b)); the values of `LANCZOS3` are transcendental at almost every rational
offset (R117), so the model keeps them unevaluated.  Its real value is `numToReal` of
Machine/RealValue.lean (log 14). -/
structure ExactNum where
  rat : Rat
  terms : List (Rat × Rat)
deriving DecidableEq, Repr, Inhabited

/-- The synchronizer's position (10_state.md R22, decision D4): "the sum type `SEEK | COLLECT(c)` with
`0 <= c <= 136`"; `collecting` is false in `seek`, and `cursor` has no value there (log 3). -/
inductive Position where
  | seek
  | collect (cursor : Fin 137)
deriving DecidableEq, Repr, Inhabited

/-- The frame: 137 bytes in increasing index (R85); the length is a fact about every frame that the
machine returns, proved in Laws. -/
abbrev Frame := List Byte

end Sys2Proof
end

