-- ==== Sys2Proof/Config.lean ====
section
/-!
DEFINITION. What is fixed at construction (00_scope.md R8): the constants of the spec, and its OPEN
parameters as opaque constants that no proof can see through.
-/

namespace Sys2Proof

/-- The two kernel families (40 R111). -/
inductive KernelFamily where
  | bspline3 | lanczos3
deriving DecidableEq, Repr, Inhabited

/-- One past the last output position, as a rule in `O` (43 R211, decision D12, U14): the default
half-open span `129*O`, the two alternatives D12 records, or any number. -/
inductive PositionsEnd where
  /-- `129*O`: the spec's default. -/
  | halfOpen
  /-- `129*O + 1`: the closed span. -/
  | closed
  /-- `130*O`: the count of the document's sentence. -/
  | counted
  /-- any other value of the parameter `I_END`. -/
  | fixed (iEnd : Int)
deriving DecidableEq, Repr, Inhabited

/-- A positive real number of seconds as plain data: "positive reals" (decision D15).  Its real value is
`secondsToReal` of Machine/RealValue.lean (log 10). -/
inductive Seconds where
  /-- a positive number that can be written out. -/
  | rational (q : { q : Rat // 0 < q })
  /-- the free real value of entry `k + 1` of the table, `Config.freeSeconds k`. -/
  | free (k : Fin 9)
deriving DecidableEq, Repr, Inhabited

/-- `NUMFMT`, the number format of a build's real-valued datapath: "binary floating point or fixed point"
(40 R119), or the exact reals of the spec's own values (decision D11).  Which numbers a format has is
`NumFormat.Holds` of Machine/RealValue.lean (log 15). -/
inductive NumFormat where
  /-- the exact reals. -/
  | exact
  /-- binary floating point: `precision` significant bits, the last of weight `2^eMin` to `2^eMax`. -/
  | float (precision : Nat) (eMin eMax : Int)
  /-- fixed point: `width` bits in two's complement, `fraction` of them after the point. -/
  | fixed (width fraction : Nat)
deriving DecidableEq, Repr, Inhabited

/-- `TOL`, the tolerance a build states, a real number of 0 or more as plain data (40 R119).  Its real value
is `toleranceToReal` of Machine/RealValue.lean (log 15). -/
inductive Tolerance where
  /-- a number that can be written out. -/
  | rational (q : { q : Rat // 0 ≤ q })
  /-- the free real value `Config.freeTolerance`. -/
  | free
deriving DecidableEq, Repr, Inhabited

/-- The static parameters of a build (00 R8, 10 R30, R31, 70 R273 (1), (2)); no operation writes them. -/
structure Build where
  /-- `KERNEL` (40 R111). -/
  kernel : KernelFamily
  /-- `TIMEBASE[1..9]`, in seconds, index `k - 1` for code `k` (42 R184). -/
  openTimebase : Vector Seconds 9
  /-- `SAMPLE_BASE`, the frame index of sample 0 (20 R57); at most 9, so that 128 samples fit in 137. -/
  sampleBase : Fin 10
  /-- the rule for `I_END` (43 R211). -/
  positionsEnd : PositionsEnd
  /-- `DELTA_W`, the width of the offsets at the ports (70 R280). -/
  deltaW : Nat
  /-- `NUMFMT`, the number format of the build's datapath and of `pt_x`, `pt_y` (40 R119, 70 R280). -/
  numFmt : NumFormat
  /-- `TOL`, the tolerance of the build's datapath (40 R119, 43 R222). -/
  tol : Tolerance
deriving DecidableEq, Repr

namespace Config

/-- `FRAME_LEN` (R8). -/
abbrev frameLen : Nat := 137

/-- `N_SAMP` (R8). -/
abbrev nSamples : Nat := 128

/-- `SYNC_MASK` and `SYNC_MATCH` (R8, 30 R80). -/
def syncMask : Byte := 0x5C#8

/-- The default oversample factor (R8, 43 R210). -/
def defaultOversample : Int := 5

/-- `DIVISOR` (R8, 43 R212). -/
def divisor : Rat := 64

/-- `Y_MIN` (R8, 43 R215). -/
def yMin : Rat := 1 / 10

/-- `Y_MAX` (R8, 43 R215). -/
def yMax : Rat := 9 / 10

/-- `Y_STEP` (R8, 43 R215). -/
def yStep : Rat := 1 / 100

/-- `TIMEBASE[0]`: 50e-9 seconds (42 R184). -/
def timebase0 : Seconds := .rational ⟨50 / 1000000000, by norm_num⟩

/-- What an unlisted cell of `BUF` or `SNAP` reads as.  DESIGN CHOICE (log 1), unsafe: the spec leaves
the contents after reset unspecified (70 R271); no reader can see them before they are written. -/
def unwrittenByte : Byte := 0x00#8

/-- `KERNEL`: OPEN (decision D8, log 9). -/
opaque kernel : KernelFamily

/-- The raw numbers behind `TIMEBASE[1..9]`, index `k - 1` for code `k`: OPEN (decision D15, log 10). -/
noncomputable opaque rawTimebase : Fin 9 → ℝ

/-- One less than `DELTA_W`: OPEN (decision D16, log 11). -/
opaque extraDeltaBits : Nat

/-- `NUMFMT`: OPEN (decision D11, log 15). -/
opaque numFmt : NumFormat

/-- The raw number behind `TOL`: OPEN (decision D11, log 15). -/
noncomputable opaque rawTolerance : ℝ

/-- Whether a point that waits leaves at clock edge number `n`: open, "its timing is open" (43 R221, log 22). -/
opaque pointLeaves : Nat → Bool

/-- A positive timebase value: the raw number, or `TIMEBASE[0]` in place of one that is not positive, so
that every table D15 allows is reached and no other (log 10). -/
noncomputable def positiveTimebase (k : Fin 9) : ℝ :=
  if 0 < rawTimebase k then rawTimebase k else 50 / 1000000000

/-- The largest of `TIMEBASE[0]` and the nine positive numbers: "TIMEBASE[9] is the slowest" (R8, 42 R184). -/
noncomputable def slowestTimebase : ℝ :=
  (List.finRange 9).foldl (fun m k => max m (positiveTimebase k)) (50 / 1000000000)

/-- The free value of `TIMEBASE[k + 1]` (D15, log 10). -/
noncomputable def freeSeconds (k : Fin 9) : ℝ := if k = 8 then slowestTimebase else positiveTimebase k

/-- The free value of `TOL`: any real number of 0 or more (log 15). -/
noncomputable def freeTolerance : ℝ := |rawTolerance|

/-- The build that the model is about: the spec's defaults where it gives one, free values elsewhere. -/
def build : Build where
  kernel := kernel
  openTimebase := Vector.ofFn Seconds.free
  sampleBase := 4
  positionsEnd := .halfOpen
  deltaW := extraDeltaBits + 1
  numFmt := numFmt
  tol := .free

end Config

end Sys2Proof
end

