-- ==== Sys2Proof/Machine/StreamByte.lean ====
section
/-!
DEFINITION. The class of a stream byte (30_encoding.md R80, R81) and the one step of the cursor.
-/

namespace Sys2Proof

/-- Class `SYNC`: "whose value, bitwise-ANDed with mask `0x5C`, equals `0x5C`" (30 R80). -/
def isSync (b : Byte) : Bool := b &&& Config.syncMask == Config.syncMask

/-- Class `DATA`: every other byte (30 R80). -/
def isData (b : Byte) : Bool := !isSync b

/-- The position after a byte is stored at cursor `c`: `COLLECT(c + 1)`, and `SEEK` after the 137th,
since 137 "is never held between steps" (10 R22, 41 R142, R144, R146). -/
def positionAfter (c : Fin 137) : Position :=
  if h : c.val + 1 < 137 then .collect ⟨c.val + 1, h⟩ else .seek

end Sys2Proof
end

