-- ==== Sys2Proof/Syntax.lean ====
section
/-!
DEFINITION. The instructions: one constructor for each row of spec/opcode_table.json, with the fields
that the row's encoding leaves free (named by the row's letters) or the arguments that the row lists.
-/

namespace Sys2Proof

/-- The rows of spec/opcode_table.json in the table's order. -/
inductive Instr where
  /-- SYNC, `a1b111cc` (41 R141). -/
  | sync (a b : BitVec 1) (cc : BitVec 2)
  /-- DATA.STORE, the DATA pattern `a0bbbbbb` (bit 6 clear; 41 R142, 30 R81). -/
  | dataStoreClear6 (a : BitVec 1) (b : BitVec 6)
  /-- DATA.STORE, the DATA pattern `a1b0cccc` (bit 4 clear). -/
  | dataStoreClear4 (a b : BitVec 1) (c : BitVec 4)
  /-- DATA.STORE, the DATA pattern `a1b10ccc` (bit 3 clear). -/
  | dataStoreClear3 (a b : BitVec 1) (c : BitVec 3)
  /-- DATA.STORE, the DATA pattern `a1b110cc` (bit 2 clear). -/
  | dataStoreClear2 (a b : BitVec 1) (c : BitVec 2)
  /-- DATA.COMPLETE, the DATA pattern `a0bbbbbb` (41 R144). -/
  | dataCompleteClear6 (a : BitVec 1) (b : BitVec 6)
  /-- DATA.COMPLETE, the DATA pattern `a1b0cccc`. -/
  | dataCompleteClear4 (a b : BitVec 1) (c : BitVec 4)
  /-- DATA.COMPLETE, the DATA pattern `a1b10ccc`. -/
  | dataCompleteClear3 (a b : BitVec 1) (c : BitVec 3)
  /-- DATA.COMPLETE, the DATA pattern `a1b110cc`. -/
  | dataCompleteClear2 (a b : BitVec 1) (c : BitVec 2)
  /-- DATA.DROP, the DATA pattern `a0bbbbbb` (41 R143). -/
  | dataDropClear6 (a : BitVec 1) (b : BitVec 6)
  /-- DATA.DROP, the DATA pattern `a1b0cccc`. -/
  | dataDropClear4 (a b : BitVec 1) (c : BitVec 4)
  /-- DATA.DROP, the DATA pattern `a1b10ccc`. -/
  | dataDropClear3 (a b : BitVec 1) (c : BitVec 3)
  /-- DATA.DROP, the DATA pattern `a1b110cc`. -/
  | dataDropClear2 (a b : BitVec 1) (c : BitVec 2)
  /-- DECODE.COUPLING.GND, `aa00bbcc` on header byte 0 (42 R181). -/
  | decodeCouplingGnd (aa bb cc : BitVec 2)
  /-- DECODE.COUPLING.AC, `aa01bbcc`. -/
  | decodeCouplingAc (aa bb cc : BitVec 2)
  /-- DECODE.COUPLING.DC, `aa10bbcc`. -/
  | decodeCouplingDc (aa bb cc : BitVec 2)
  /-- DECODE.COUPLING.RESERVED, `aa11bbcc`. -/
  | decodeCouplingReserved (aa bb cc : BitVec 2)
  /-- DECODE.RANGE.1V, `aabb00cc` on header byte 0 (42 R182). -/
  | decodeRange1v (aa bb cc : BitVec 2)
  /-- DECODE.RANGE.10V, `aabb01cc`. -/
  | decodeRange10v (aa bb cc : BitVec 2)
  /-- DECODE.RANGE.100V, `aabb10cc`. -/
  | decodeRange100v (aa bb cc : BitVec 2)
  /-- DECODE.RANGE.RESERVED, `aabb11cc`. -/
  | decodeRangeReserved (aa bb cc : BitVec 2)
  /-- DECODE.TIMEBASE.0, `00000000` on header byte 1 (42 R184). -/
  | decodeTimebase0
  /-- DECODE.TIMEBASE.1, `00000001`. -/
  | decodeTimebase1
  /-- DECODE.TIMEBASE.2, `00000010`. -/
  | decodeTimebase2
  /-- DECODE.TIMEBASE.3, `00000011`. -/
  | decodeTimebase3
  /-- DECODE.TIMEBASE.4, `00000100`. -/
  | decodeTimebase4
  /-- DECODE.TIMEBASE.5, `00000101`. -/
  | decodeTimebase5
  /-- DECODE.TIMEBASE.6, `00000110`. -/
  | decodeTimebase6
  /-- DECODE.TIMEBASE.7, `00000111`. -/
  | decodeTimebase7
  /-- DECODE.TIMEBASE.8, `00001000`. -/
  | decodeTimebase8
  /-- DECODE.TIMEBASE.9, `00001001`. -/
  | decodeTimebase9
  /-- DECODE.TIMEBASE.FALLBACK, `0000101a` (codes 10 and 11). -/
  | decodeTimebaseFallback10 (a : BitVec 1)
  /-- DECODE.TIMEBASE.FALLBACK, `000011aa` (codes 12 to 15). -/
  | decodeTimebaseFallback12 (aa : BitVec 2)
  /-- DECODE.TIMEBASE.FALLBACK, `0001aaaa` (codes 16 to 31). -/
  | decodeTimebaseFallback16 (a : BitVec 4)
  /-- DECODE.TIMEBASE.FALLBACK, `001aaaaa` (codes 32 to 63). -/
  | decodeTimebaseFallback32 (a : BitVec 5)
  /-- DECODE.TIMEBASE.FALLBACK, `01aaaaaa` (codes 64 to 127). -/
  | decodeTimebaseFallback64 (a : BitVec 6)
  /-- DECODE.TIMEBASE.FALLBACK, `1aaaaaaa` (codes 128 to 255). -/
  | decodeTimebaseFallback128 (a : BitVec 7)
  /-- DECODE.TRIGGER.PLUS_INTERNAL, `a1bbbccc` on header byte 2 (42 R183). -/
  | decodeTriggerPlusInternal (a : BitVec 1) (b c : BitVec 3)
  /-- DECODE.TRIGGER.MINUS_INTERNAL, `a01bbccc`. -/
  | decodeTriggerMinusInternal (a : BitVec 1) (b : BitVec 2) (c : BitVec 3)
  /-- DECODE.TRIGGER.PLUS_EXTERNAL, `a001bccc`. -/
  | decodeTriggerPlusExternal (a b : BitVec 1) (c : BitVec 3)
  /-- DECODE.TRIGGER.MINUS_EXTERNAL, `a0001ccc`. -/
  | decodeTriggerMinusExternal (a : BitVec 1) (c : BitVec 3)
  /-- DECODE.TRIGGER.AUTO, `a0000ccc`. -/
  | decodeTriggerAuto (a : BitVec 1) (c : BitVec 3)
  /-- KERNEL.BSPLINE3 at offset `t` (40 R113). -/
  | kernelBspline3 (t : Rat)
  /-- KERNEL.LANCZOS3 at offset `t` (40 R115). -/
  | kernelLanczos3 (t : Rat)
  /-- DECODE: the whole record of the snapshot's header (42 R180). -/
  | decode
  /-- RECON: the point sequence of the snapshot at the caller's oversample factor, `none` for the
  default 5 (43 R210). -/
  | recon (oversample : Option Int)
  /-- RECON.POSITIONS for oversample factor `o` (43 R211). -/
  | reconPositions (o : Int)
  /-- RECON.AMPLITUDE at output position `i` (43 R212). -/
  | reconAmplitude (i o : Int)
  /-- RECON.XCOORD of output position `i` (43 R214). -/
  | reconXcoord (i deltaX o : Int)
  /-- RECON.YCOORD of amplitude `a` (43 R215). -/
  | reconYcoord (a : ExactNum) (deltaY : Int)
  /-- FRAME(h0, h1, h2, h3, S, T) of the stream notation (30 R97). -/
  | frame (h0 h1 h2 h3 : Byte) (samples trailer : List Byte)
  /-- NOISE(B) of the stream notation (30 R97). -/
  | noise (bytes : List Byte)
deriving DecidableEq, Repr

/-- The pure functions that are "selected by call, not by decoding a word" (the CALL rows of
spec/opcode_table.json).  `kernel` is the one kernel function of 40 R110, whose family is the build's. -/
inductive Call where
  | kernel (t : Rat)
  | decode
  | recon (oversample : Option Int)
  | positions (o : Int)
  | amplitude (i o : Int)
  | xcoord (i deltaX o : Int)
  | ycoord (a : ExactNum) (deltaY : Int)
deriving DecidableEq, Repr

/-- The four components of the header that `decode` computes independently (42 R180). -/
inductive HeaderField where
  | coupling | range | timebase | trigger
deriving DecidableEq, Repr

/-- An instruction as it reaches the decoder, by the table's `format`: one byte of the stream, a header
byte with the field that is wanted of it, a call, or a run of stream bytes taken as one (the wire form
of the notation of 30 R97). -/
inductive Encoded where
  | stream (b : Byte)
  | header (f : HeaderField) (b : Byte)
  | call (c : Call)
  | burst (bs : List Byte)
deriving DecidableEq, Repr

end Sys2Proof
end

