-- ==== Sys2Proof/WellFormed.lean ====
section
/-!
DEFINITION. Which instructions are well formed.  The rows with a bit encoding are so by their fields'
widths; the checks below are the ones the spec makes on the arguments of the other rows.
-/

namespace Sys2Proof

/-- The offsets of a list of terms are strictly rising and above `lo`, and no coefficient is zero. -/
def termsRiseAbove (lo : Rat) : List (Rat × Rat) → Bool
  | [] => true
  | (c, a) :: rest => decide (c ≠ 0) && decide (lo < a) && termsRiseAbove a rest

/-- The canonical form of an exact number: offsets rising inside the support of `LANCZOS3`, none of them
an integer (there the value is rational: 40 R117 (a), (b), (d)), and no zero coefficient. -/
def ExactNum.wf (v : ExactNum) : Bool :=
  termsRiseAbove 0 v.terms && v.terms.all fun (_, a) => decide (a < 3) && decide (a.den ≠ 1)

/-- An oversample factor is "an integer of 1 or more" (43 R210, decision D17). -/
def oversampleOk (o : Int) : Bool := decide (1 ≤ o)

/-- `FRAME` and `NOISE`: "Every byte given must be of the `DATA` class or the expansion is not a frame"
(30 R97). -/
def Instr.wellFormed : Instr → Bool
  | .frame h0 h1 h2 h3 samples trailer =>
      isData h0 && isData h1 && isData h2 && isData h3
        && samples.length == 128 && samples.all isData
        && trailer.length == 5 && trailer.all isData
  | .noise bytes => bytes.all isData
  | .recon (some o) => oversampleOk o
  | .reconPositions o => oversampleOk o
  | .reconAmplitude _ o => oversampleOk o
  | .reconXcoord _ _ o => oversampleOk o
  | .reconYcoord a _ => a.wf
  | .sync _ _ _ | .dataStoreClear6 _ _ | .dataStoreClear4 _ _ _ | .dataStoreClear3 _ _ _
  | .dataStoreClear2 _ _ _ | .dataCompleteClear6 _ _ | .dataCompleteClear4 _ _ _
  | .dataCompleteClear3 _ _ _ | .dataCompleteClear2 _ _ _ | .dataDropClear6 _ _
  | .dataDropClear4 _ _ _ | .dataDropClear3 _ _ _ | .dataDropClear2 _ _ _
  | .decodeCouplingGnd _ _ _ | .decodeCouplingAc _ _ _ | .decodeCouplingDc _ _ _
  | .decodeCouplingReserved _ _ _ | .decodeRange1v _ _ _ | .decodeRange10v _ _ _
  | .decodeRange100v _ _ _ | .decodeRangeReserved _ _ _
  | .decodeTimebase0 | .decodeTimebase1 | .decodeTimebase2 | .decodeTimebase3 | .decodeTimebase4
  | .decodeTimebase5 | .decodeTimebase6 | .decodeTimebase7 | .decodeTimebase8 | .decodeTimebase9
  | .decodeTimebaseFallback10 _ | .decodeTimebaseFallback12 _ | .decodeTimebaseFallback16 _
  | .decodeTimebaseFallback32 _ | .decodeTimebaseFallback64 _ | .decodeTimebaseFallback128 _
  | .decodeTriggerPlusInternal _ _ _ | .decodeTriggerMinusInternal _ _ _
  | .decodeTriggerPlusExternal _ _ _ | .decodeTriggerMinusExternal _ _ | .decodeTriggerAuto _ _
  | .kernelBspline3 _ | .kernelLanczos3 _ | .decode | .recon none => true

end Sys2Proof
end

