-- ==== Sys2Proof/Decode.lean ====
section
/-!
DEFINITION. The decoder, total on anything that can reach it, and after it the encoder, both from the
encodings of spec/30_encoding.md and spec/opcode_table.json.

Many rows of the table share words: the arm of a DATA byte "is chosen by the position, not by the byte"
(the table's notes, 41 R140), a header byte is read as two fields, and a CALL row has no word at all.
So the decoder reads an instruction in a context (log 5).
-/

namespace Sys2Proof

/-- What the choice of an instruction depends on beside its bits: the synchronizer's position (41 R140)
and the active kernel family (40 R111). -/
structure DecodeContext where
  pos : Position
  kernel : KernelFamily
deriving DecidableEq, Repr

/-- The context right after reset, for a word of the stream: `SEEK` (70 R270); the kernel family plays
no part in it. -/
def DecodeContext.afterReset : DecodeContext := ⟨.seek, .bspline3⟩

/-- Why the decoder answers no instruction. -/
inductive DecodeRefusal where
  /-- A burst that is neither a `FRAME` nor, at `SEEK`, a `NOISE`: no row of the table stands for it.
  Its bytes are fed one by one all the same (41 R149, log 21). -/
  | notInStreamNotation
deriving DecidableEq, Repr

/-- Bits `lo + n - 1` down to `lo` of a byte (R10 item 2). -/
def bitsOf (b : Byte) (lo n : Nat) : BitVec n := b.extractLsb' lo n

/-- DATA.DROP by the four DATA patterns of 30 R81. -/
def decodeDrop (b : Byte) : Instr :=
  if bitsOf b 6 1 = 0#1 then .dataDropClear6 (bitsOf b 7 1) (bitsOf b 0 6)
  else if bitsOf b 4 1 = 0#1 then .dataDropClear4 (bitsOf b 7 1) (bitsOf b 5 1) (bitsOf b 0 4)
  else if bitsOf b 3 1 = 0#1 then .dataDropClear3 (bitsOf b 7 1) (bitsOf b 5 1) (bitsOf b 0 3)
  else .dataDropClear2 (bitsOf b 7 1) (bitsOf b 5 1) (bitsOf b 0 2)

/-- DATA.STORE by the four DATA patterns of 30 R81. -/
def decodeStore (b : Byte) : Instr :=
  if bitsOf b 6 1 = 0#1 then .dataStoreClear6 (bitsOf b 7 1) (bitsOf b 0 6)
  else if bitsOf b 4 1 = 0#1 then .dataStoreClear4 (bitsOf b 7 1) (bitsOf b 5 1) (bitsOf b 0 4)
  else if bitsOf b 3 1 = 0#1 then .dataStoreClear3 (bitsOf b 7 1) (bitsOf b 5 1) (bitsOf b 0 3)
  else .dataStoreClear2 (bitsOf b 7 1) (bitsOf b 5 1) (bitsOf b 0 2)

/-- DATA.COMPLETE by the four DATA patterns of 30 R81. -/
def decodeComplete (b : Byte) : Instr :=
  if bitsOf b 6 1 = 0#1 then .dataCompleteClear6 (bitsOf b 7 1) (bitsOf b 0 6)
  else if bitsOf b 4 1 = 0#1 then .dataCompleteClear4 (bitsOf b 7 1) (bitsOf b 5 1) (bitsOf b 0 4)
  else if bitsOf b 3 1 = 0#1 then .dataCompleteClear3 (bitsOf b 7 1) (bitsOf b 5 1) (bitsOf b 0 3)
  else .dataCompleteClear2 (bitsOf b 7 1) (bitsOf b 5 1) (bitsOf b 0 2)

/-- The dispatch of 41 R140: the marker test first, then the position chooses the DATA arm. -/
def decodeStream (p : Position) (b : Byte) : Instr :=
  if isSync b then .sync (bitsOf b 7 1) (bitsOf b 5 1) (bitsOf b 0 2)
  else match p with
    | .collect c => if c.val < 136 then decodeStore b else decodeComplete b
    | .seek => decodeDrop b

/-- DECODE.COUPLING by `h0[5:4]` (30 R86). -/
def decodeCoupling (h0 : Byte) : Instr :=
  if bitsOf h0 4 2 = 0#2 then .decodeCouplingGnd (bitsOf h0 6 2) (bitsOf h0 2 2) (bitsOf h0 0 2)
  else if bitsOf h0 4 2 = 1#2 then .decodeCouplingAc (bitsOf h0 6 2) (bitsOf h0 2 2) (bitsOf h0 0 2)
  else if bitsOf h0 4 2 = 2#2 then .decodeCouplingDc (bitsOf h0 6 2) (bitsOf h0 2 2) (bitsOf h0 0 2)
  else .decodeCouplingReserved (bitsOf h0 6 2) (bitsOf h0 2 2) (bitsOf h0 0 2)

/-- DECODE.RANGE by `h0[3:2]` (30 R87). -/
def decodeRange (h0 : Byte) : Instr :=
  if bitsOf h0 2 2 = 0#2 then .decodeRange1v (bitsOf h0 6 2) (bitsOf h0 4 2) (bitsOf h0 0 2)
  else if bitsOf h0 2 2 = 1#2 then .decodeRange10v (bitsOf h0 6 2) (bitsOf h0 4 2) (bitsOf h0 0 2)
  else if bitsOf h0 2 2 = 2#2 then .decodeRange100v (bitsOf h0 6 2) (bitsOf h0 4 2) (bitsOf h0 0 2)
  else .decodeRangeReserved (bitsOf h0 6 2) (bitsOf h0 4 2) (bitsOf h0 0 2)

/-- DECODE.TIMEBASE for the codes 0 to 9 (30 R88). -/
def decodeTimebaseCode : Nat → Instr
  | 0 => .decodeTimebase0
  | 1 => .decodeTimebase1
  | 2 => .decodeTimebase2
  | 3 => .decodeTimebase3
  | 4 => .decodeTimebase4
  | 5 => .decodeTimebase5
  | 6 => .decodeTimebase6
  | 7 => .decodeTimebase7
  | 8 => .decodeTimebase8
  | _ => .decodeTimebase9

/-- DECODE.TIMEBASE.FALLBACK by its six patterns: the codes of 10 and more (30 R88). -/
def decodeTimebaseFallback (h1 : Byte) : Instr :=
  if bitsOf h1 1 7 = 5#7 then .decodeTimebaseFallback10 (bitsOf h1 0 1)
  else if bitsOf h1 2 6 = 3#6 then .decodeTimebaseFallback12 (bitsOf h1 0 2)
  else if bitsOf h1 4 4 = 1#4 then .decodeTimebaseFallback16 (bitsOf h1 0 4)
  else if bitsOf h1 5 3 = 1#3 then .decodeTimebaseFallback32 (bitsOf h1 0 5)
  else if bitsOf h1 6 2 = 1#2 then .decodeTimebaseFallback64 (bitsOf h1 0 6)
  else .decodeTimebaseFallback128 (bitsOf h1 0 7)

/-- DECODE.TIMEBASE by `h1[7:0]` (30 R88). -/
def decodeTimebase (h1 : Byte) : Instr :=
  if h1.toNat < 10 then decodeTimebaseCode h1.toNat else decodeTimebaseFallback h1

/-- DECODE.TRIGGER by `h2[6]`, `h2[5]`, `h2[4]`, `h2[3]`, first match wins (30 R89). -/
def decodeTrigger (h2 : Byte) : Instr :=
  if bitsOf h2 6 1 = 1#1 then .decodeTriggerPlusInternal (bitsOf h2 7 1) (bitsOf h2 3 3) (bitsOf h2 0 3)
  else if bitsOf h2 5 1 = 1#1 then
    .decodeTriggerMinusInternal (bitsOf h2 7 1) (bitsOf h2 3 2) (bitsOf h2 0 3)
  else if bitsOf h2 4 1 = 1#1 then
    .decodeTriggerPlusExternal (bitsOf h2 7 1) (bitsOf h2 3 1) (bitsOf h2 0 3)
  else if bitsOf h2 3 1 = 1#1 then .decodeTriggerMinusExternal (bitsOf h2 7 1) (bitsOf h2 0 3)
  else .decodeTriggerAuto (bitsOf h2 7 1) (bitsOf h2 0 3)

/-- The field of the header that is wanted chooses the group of rows (42 R180). -/
def decodeHeader : HeaderField → Byte → Instr
  | .coupling => decodeCoupling
  | .range => decodeRange
  | .timebase => decodeTimebase
  | .trigger => decodeTrigger

/-- A call names its function; `kernel` is the active family's (40 R110, R111). -/
def decodeCall (k : KernelFamily) : Call → Instr
  | .kernel t => match k with
    | .bspline3 => .kernelBspline3 t
    | .lanczos3 => .kernelLanczos3 t
  | .decode => .decode
  | .recon o => .recon o
  | .positions o => .reconPositions o
  | .amplitude i o => .reconAmplitude i o
  | .xcoord i d o => .reconXcoord i d o
  | .ycoord a d => .reconYcoord a d

/-- The run of bytes `FRAME` stands for, read back: `SYNC` alone (`0x5C`) and 137 DATA bytes (30 R97). -/
def decodeFrame : List Byte → Option Instr
  | m :: h0 :: h1 :: h2 :: h3 :: rest =>
      if m = Config.syncMask ∧ rest.length = 133 ∧ (h0 :: h1 :: h2 :: h3 :: rest).all isData then
        some (.frame h0 h1 h2 h3 (rest.take 128) (rest.drop 128))
      else none
  | _ => none

/-- A burst in the stream notation: `FRAME`, or `NOISE` "placed where the synchronizer is in `SEEK`"
(30 R97); any other burst is refused by name. -/
def decodeBurst (p : Position) (bs : List Byte) : Except DecodeRefusal Instr :=
  match decodeFrame bs with
  | some i => .ok i
  | none =>
    if p = .seek ∧ bs.all isData then .ok (.noise bs) else .error .notInStreamNotation

/-- The decoder. -/
def decodeWord (ctx : DecodeContext) : Encoded → Except DecodeRefusal Instr
  | .stream b => .ok (decodeStream ctx.pos b)
  | .header f b => .ok (decodeHeader f b)
  | .call c => .ok (decodeCall ctx.kernel c)
  | .burst bs => decodeBurst ctx.pos bs

/-- The first `n` bytes of a number, byte 0 the least significant: how the opcode table numbers bits. -/
def bytesOfNat : Nat → Nat → List Byte
  | 0, _ => []
  | n + 1, w => BitVec.ofNat 8 w :: bytesOfNat n (w / 256)

/-- The instruction word of `nbits` bits as it reaches the unit: "one byte fed to the synchronizer"
(00 R11), or a run of bytes on the wire (log 5). -/
def encodedOfTableWord (nbits w : Nat) : Encoded :=
  if nbits = 8 then .stream (BitVec.ofNat 8 w) else .burst (bytesOfNat (nbits / 8) w)

/-- What the decoder reads from a table word, in the context right after reset (log 5). -/
def decodeTableWord (nbits w : Nat) : Option Instr :=
  match decodeWord .afterReset (encodedOfTableWord nbits w) with
  | .ok i => some i
  | .error _ => none

/-- The stream byte of the DATA pattern `a0bbbbbb`. -/
def byteClear6 (a : BitVec 1) (b : BitVec 6) : Byte := a ++ 0#1 ++ b

/-- The stream byte of the DATA pattern `a1b0cccc`. -/
def byteClear4 (a b : BitVec 1) (c : BitVec 4) : Byte := a ++ 1#1 ++ b ++ 0#1 ++ c

/-- The stream byte of the DATA pattern `a1b10ccc`. -/
def byteClear3 (a b : BitVec 1) (c : BitVec 3) : Byte := a ++ 1#1 ++ b ++ 2#2 ++ c

/-- The stream byte of the DATA pattern `a1b110cc`. -/
def byteClear2 (a b : BitVec 1) (c : BitVec 2) : Byte := a ++ 1#1 ++ b ++ 6#3 ++ c

/-- The stream byte of the pattern `a1b111cc` (30 R80). -/
def byteSync (a b : BitVec 1) (cc : BitVec 2) : Byte := a ++ 1#1 ++ b ++ 7#3 ++ cc

/-- The 138 bytes that `FRAME` expands to (30 R97). -/
def frameBytes (h0 h1 h2 h3 : Byte) (samples trailer : List Byte) : List Byte :=
  Config.syncMask :: h0 :: h1 :: h2 :: h3 :: (samples ++ trailer)

/-- The encoder: the word of each instruction, from the `encoding` of its row. -/
def encode : Instr → Encoded
  | .sync a b cc => .stream (byteSync a b cc)
  | .dataStoreClear6 a b => .stream (byteClear6 a b)
  | .dataStoreClear4 a b c => .stream (byteClear4 a b c)
  | .dataStoreClear3 a b c => .stream (byteClear3 a b c)
  | .dataStoreClear2 a b c => .stream (byteClear2 a b c)
  | .dataCompleteClear6 a b => .stream (byteClear6 a b)
  | .dataCompleteClear4 a b c => .stream (byteClear4 a b c)
  | .dataCompleteClear3 a b c => .stream (byteClear3 a b c)
  | .dataCompleteClear2 a b c => .stream (byteClear2 a b c)
  | .dataDropClear6 a b => .stream (byteClear6 a b)
  | .dataDropClear4 a b c => .stream (byteClear4 a b c)
  | .dataDropClear3 a b c => .stream (byteClear3 a b c)
  | .dataDropClear2 a b c => .stream (byteClear2 a b c)
  | .decodeCouplingGnd aa bb cc => .header .coupling (aa ++ 0#2 ++ bb ++ cc)
  | .decodeCouplingAc aa bb cc => .header .coupling (aa ++ 1#2 ++ bb ++ cc)
  | .decodeCouplingDc aa bb cc => .header .coupling (aa ++ 2#2 ++ bb ++ cc)
  | .decodeCouplingReserved aa bb cc => .header .coupling (aa ++ 3#2 ++ bb ++ cc)
  | .decodeRange1v aa bb cc => .header .range (aa ++ bb ++ 0#2 ++ cc)
  | .decodeRange10v aa bb cc => .header .range (aa ++ bb ++ 1#2 ++ cc)
  | .decodeRange100v aa bb cc => .header .range (aa ++ bb ++ 2#2 ++ cc)
  | .decodeRangeReserved aa bb cc => .header .range (aa ++ bb ++ 3#2 ++ cc)
  | .decodeTimebase0 => .header .timebase 0#8
  | .decodeTimebase1 => .header .timebase 1#8
  | .decodeTimebase2 => .header .timebase 2#8
  | .decodeTimebase3 => .header .timebase 3#8
  | .decodeTimebase4 => .header .timebase 4#8
  | .decodeTimebase5 => .header .timebase 5#8
  | .decodeTimebase6 => .header .timebase 6#8
  | .decodeTimebase7 => .header .timebase 7#8
  | .decodeTimebase8 => .header .timebase 8#8
  | .decodeTimebase9 => .header .timebase 9#8
  | .decodeTimebaseFallback10 a => .header .timebase (5#7 ++ a)
  | .decodeTimebaseFallback12 aa => .header .timebase (3#6 ++ aa)
  | .decodeTimebaseFallback16 a => .header .timebase (1#4 ++ a)
  | .decodeTimebaseFallback32 a => .header .timebase (1#3 ++ a)
  | .decodeTimebaseFallback64 a => .header .timebase (1#2 ++ a)
  | .decodeTimebaseFallback128 a => .header .timebase (1#1 ++ a)
  | .decodeTriggerPlusInternal a b c => .header .trigger (a ++ 1#1 ++ b ++ c)
  | .decodeTriggerMinusInternal a b c => .header .trigger (a ++ 1#2 ++ b ++ c)
  | .decodeTriggerPlusExternal a b c => .header .trigger (a ++ 1#3 ++ b ++ c)
  | .decodeTriggerMinusExternal a c => .header .trigger (a ++ 1#4 ++ c)
  | .decodeTriggerAuto a c => .header .trigger (a ++ 0#4 ++ c)
  | .kernelBspline3 t => .call (.kernel t)
  | .kernelLanczos3 t => .call (.kernel t)
  | .decode => .call .decode
  | .recon o => .call (.recon o)
  | .reconPositions o => .call (.positions o)
  | .reconAmplitude i o => .call (.amplitude i o)
  | .reconXcoord i d o => .call (.xcoord i d o)
  | .reconYcoord a d => .call (.ycoord a d)
  | .frame h0 h1 h2 h3 samples trailer => .burst (frameBytes h0 h1 h2 h3 samples trailer)
  | .noise bytes => .burst bytes

/-- The contexts in which the hardware chooses this instruction for its word: the `when` of the FEED
rows (41 R140), the active family of a KERNEL row (40 R111), `SEEK` for `NOISE` (30 R97). -/
def Instr.selectedIn (ctx : DecodeContext) : Instr → Bool
  | .dataStoreClear6 _ _ | .dataStoreClear4 _ _ _ | .dataStoreClear3 _ _ _ | .dataStoreClear2 _ _ _ =>
      match ctx.pos with
      | .collect c => decide (c.val < 136)
      | .seek => false
  | .dataCompleteClear6 _ _ | .dataCompleteClear4 _ _ _ | .dataCompleteClear3 _ _ _
  | .dataCompleteClear2 _ _ _ => ctx.pos == .collect 136
  | .dataDropClear6 _ _ | .dataDropClear4 _ _ _ | .dataDropClear3 _ _ _ | .dataDropClear2 _ _ _
  | .noise _ => ctx.pos == .seek
  | .kernelBspline3 _ => ctx.kernel == .bspline3
  | .kernelLanczos3 _ => ctx.kernel == .lanczos3
  | .sync _ _ _ | .decodeCouplingGnd _ _ _ | .decodeCouplingAc _ _ _ | .decodeCouplingDc _ _ _
  | .decodeCouplingReserved _ _ _ | .decodeRange1v _ _ _ | .decodeRange10v _ _ _
  | .decodeRange100v _ _ _ | .decodeRangeReserved _ _ _
  | .decodeTimebase0 | .decodeTimebase1 | .decodeTimebase2 | .decodeTimebase3 | .decodeTimebase4
  | .decodeTimebase5 | .decodeTimebase6 | .decodeTimebase7 | .decodeTimebase8 | .decodeTimebase9
  | .decodeTimebaseFallback10 _ | .decodeTimebaseFallback12 _ | .decodeTimebaseFallback16 _
  | .decodeTimebaseFallback32 _ | .decodeTimebaseFallback64 _ | .decodeTimebaseFallback128 _
  | .decodeTriggerPlusInternal _ _ _ | .decodeTriggerMinusInternal _ _ _
  | .decodeTriggerPlusExternal _ _ _ | .decodeTriggerMinusExternal _ _ | .decodeTriggerAuto _ _
  | .decode | .recon _ | .reconPositions _ | .reconAmplitude _ _ | .reconXcoord _ _ _
  | .reconYcoord _ _ | .frame _ _ _ _ _ _ => true

/-- The `format` column of spec/opcode_table.json. -/
inductive RowFormat where
  | streamByte | headerH0 | headerH1 | headerH2 | call | pseudo
deriving DecidableEq, Repr

/-- A row of spec/opcode_table.json: its format, its mask and its match. -/
structure Row where
  format : RowFormat
  mask : Byte
  value : Byte
deriving DecidableEq, Repr

/-- The row's test on one byte: the masked byte equals the match. -/
def Row.accepts (r : Row) (b : Byte) : Bool := b &&& r.mask == r.value

/-- The row of each instruction, format, mask and match as the table gives them. -/
def Instr.row : Instr → Row
  | .sync _ _ _ => ⟨.streamByte, 0x5C#8, 0x5C#8⟩
  | .dataStoreClear6 _ _ => ⟨.streamByte, 0x40#8, 0x00#8⟩
  | .dataStoreClear4 _ _ _ => ⟨.streamByte, 0x50#8, 0x40#8⟩
  | .dataStoreClear3 _ _ _ => ⟨.streamByte, 0x58#8, 0x50#8⟩
  | .dataStoreClear2 _ _ _ => ⟨.streamByte, 0x5C#8, 0x58#8⟩
  | .dataCompleteClear6 _ _ => ⟨.streamByte, 0x40#8, 0x00#8⟩
  | .dataCompleteClear4 _ _ _ => ⟨.streamByte, 0x50#8, 0x40#8⟩
  | .dataCompleteClear3 _ _ _ => ⟨.streamByte, 0x58#8, 0x50#8⟩
  | .dataCompleteClear2 _ _ _ => ⟨.streamByte, 0x5C#8, 0x58#8⟩
  | .dataDropClear6 _ _ => ⟨.streamByte, 0x40#8, 0x00#8⟩
  | .dataDropClear4 _ _ _ => ⟨.streamByte, 0x50#8, 0x40#8⟩
  | .dataDropClear3 _ _ _ => ⟨.streamByte, 0x58#8, 0x50#8⟩
  | .dataDropClear2 _ _ _ => ⟨.streamByte, 0x5C#8, 0x58#8⟩
  | .decodeCouplingGnd _ _ _ => ⟨.headerH0, 0x30#8, 0x00#8⟩
  | .decodeCouplingAc _ _ _ => ⟨.headerH0, 0x30#8, 0x10#8⟩
  | .decodeCouplingDc _ _ _ => ⟨.headerH0, 0x30#8, 0x20#8⟩
  | .decodeCouplingReserved _ _ _ => ⟨.headerH0, 0x30#8, 0x30#8⟩
  | .decodeRange1v _ _ _ => ⟨.headerH0, 0x0C#8, 0x00#8⟩
  | .decodeRange10v _ _ _ => ⟨.headerH0, 0x0C#8, 0x04#8⟩
  | .decodeRange100v _ _ _ => ⟨.headerH0, 0x0C#8, 0x08#8⟩
  | .decodeRangeReserved _ _ _ => ⟨.headerH0, 0x0C#8, 0x0C#8⟩
  | .decodeTimebase0 => ⟨.headerH1, 0xFF#8, 0x00#8⟩
  | .decodeTimebase1 => ⟨.headerH1, 0xFF#8, 0x01#8⟩
  | .decodeTimebase2 => ⟨.headerH1, 0xFF#8, 0x02#8⟩
  | .decodeTimebase3 => ⟨.headerH1, 0xFF#8, 0x03#8⟩
  | .decodeTimebase4 => ⟨.headerH1, 0xFF#8, 0x04#8⟩
  | .decodeTimebase5 => ⟨.headerH1, 0xFF#8, 0x05#8⟩
  | .decodeTimebase6 => ⟨.headerH1, 0xFF#8, 0x06#8⟩
  | .decodeTimebase7 => ⟨.headerH1, 0xFF#8, 0x07#8⟩
  | .decodeTimebase8 => ⟨.headerH1, 0xFF#8, 0x08#8⟩
  | .decodeTimebase9 => ⟨.headerH1, 0xFF#8, 0x09#8⟩
  | .decodeTimebaseFallback10 _ => ⟨.headerH1, 0xFE#8, 0x0A#8⟩
  | .decodeTimebaseFallback12 _ => ⟨.headerH1, 0xFC#8, 0x0C#8⟩
  | .decodeTimebaseFallback16 _ => ⟨.headerH1, 0xF0#8, 0x10#8⟩
  | .decodeTimebaseFallback32 _ => ⟨.headerH1, 0xE0#8, 0x20#8⟩
  | .decodeTimebaseFallback64 _ => ⟨.headerH1, 0xC0#8, 0x40#8⟩
  | .decodeTimebaseFallback128 _ => ⟨.headerH1, 0x80#8, 0x80#8⟩
  | .decodeTriggerPlusInternal _ _ _ => ⟨.headerH2, 0x40#8, 0x40#8⟩
  | .decodeTriggerMinusInternal _ _ _ => ⟨.headerH2, 0x60#8, 0x20#8⟩
  | .decodeTriggerPlusExternal _ _ _ => ⟨.headerH2, 0x70#8, 0x10#8⟩
  | .decodeTriggerMinusExternal _ _ => ⟨.headerH2, 0x78#8, 0x08#8⟩
  | .decodeTriggerAuto _ _ => ⟨.headerH2, 0x78#8, 0x00#8⟩
  | .kernelBspline3 _ => ⟨.call, 0x00#8, 0x00#8⟩
  | .kernelLanczos3 _ => ⟨.call, 0x00#8, 0x00#8⟩
  | .decode => ⟨.call, 0x00#8, 0x00#8⟩
  | .recon _ => ⟨.call, 0x00#8, 0x00#8⟩
  | .reconPositions _ => ⟨.call, 0x00#8, 0x00#8⟩
  | .reconAmplitude _ _ => ⟨.call, 0x00#8, 0x00#8⟩
  | .reconXcoord _ _ _ => ⟨.call, 0x00#8, 0x00#8⟩
  | .reconYcoord _ _ => ⟨.call, 0x00#8, 0x00#8⟩
  | .frame _ _ _ _ _ _ => ⟨.pseudo, 0x00#8, 0x00#8⟩
  | .noise _ => ⟨.pseudo, 0x00#8, 0x00#8⟩

/-- The word has the row's format and, where it is one byte, passes the row's mask-and-match test. -/
def Row.fits (r : Row) : Encoded → Bool
  | .stream b => r.format == .streamByte && r.accepts b
  | .header .coupling b => r.format == .headerH0 && r.accepts b
  | .header .range b => r.format == .headerH0 && r.accepts b
  | .header .timebase b => r.format == .headerH1 && r.accepts b
  | .header .trigger b => r.format == .headerH2 && r.accepts b
  | .call _ => r.format == .call
  | .burst _ => r.format == .pseudo

end Sys2Proof
end

