-- ==== Sys2Proof/Machine/Header.lean ====
section
/-!
DEFINITION. The labels of the configuration record and their codes (30_encoding.md R95, 42 R181 to R183).
-/

namespace Sys2Proof.Machine

/-- The coupling table with the fourth entry of decision D14 (42 R181). -/
inductive Coupling where
  | gnd | ac | dc | reserved
deriving DecidableEq, Repr

/-- The range table with the fourth entry of decision D14 (42 R182). -/
inductive VoltRange where
  | one | ten | hundred | reserved
deriving DecidableEq, Repr

/-- The trigger labels (42 R183). -/
inductive Trigger where
  | auto | plusInternal | minusInternal | plusExternal | minusExternal
deriving DecidableEq, Repr

/-- The coupling label as text (42 R181). -/
def couplingLabel : Coupling → String
  | .gnd => "GND"
  | .ac => "AC"
  | .dc => "DC"
  | .reserved => "?"

/-- The coupling code: the 2-bit field itself (30 R95). -/
def couplingCode : Coupling → BitVec 2
  | .gnd => 0
  | .ac => 1
  | .dc => 2
  | .reserved => 3

/-- The range label as text, in volts (42 R182). -/
def rangeLabel : VoltRange → String
  | .one => "1"
  | .ten => "10"
  | .hundred => "100"
  | .reserved => "?"

/-- The range code: the 2-bit field itself (30 R95). -/
def rangeCode : VoltRange → BitVec 2
  | .one => 0
  | .ten => 1
  | .hundred => 2
  | .reserved => 3

/-- The trigger label as text; the minus sign is the document's U+2212 (42 R183, 30 R95). -/
def triggerLabel : Trigger → String
  | .auto => "AUTO"
  | .plusInternal => "+INTERNAL"
  | .minusInternal => "−INTERNAL"
  | .plusExternal => "+EXTERNAL"
  | .minusExternal => "−EXTERNAL"

/-- The trigger label where "a build that has only ASCII writes `-`" (30 R95). -/
def triggerLabelAscii : Trigger → String
  | .minusInternal => "-INTERNAL"
  | .minusExternal => "-EXTERNAL"
  | t => triggerLabel t

/-- The trigger code 0 to 4 (30 R95). -/
def triggerCode : Trigger → BitVec 3
  | .auto => 0
  | .plusInternal => 1
  | .minusInternal => 2
  | .plusExternal => 3
  | .minusExternal => 4

/-- The record that `decode` returns (42 R180): three labels, and the timebase as the table's index with
the seconds it stands for (30 R95). -/
structure ConfigRecord where
  coupling : Coupling
  range : VoltRange
  trigger : Trigger
  timebaseIndex : Fin 10
  timebase : Seconds
deriving DecidableEq, Repr

end Sys2Proof.Machine
end

