-- ==== Sys2Proof/Machine/Memory.lean ====
section
/-!
DEFINITION. One byte space of the unit (20_memory.md R50): `BUF` or `SNAP`, 137 bytes at indices 0 to 136.
A space is the list of the cells that differ from `Config.unwrittenByte`, addresses strictly rising, so
that equal contents are equal lists.
-/

namespace Sys2Proof.Machine

/-- A byte space: (address, byte) pairs in the canonical form `Memory.wf`. -/
abbrev Memory := List Host.Cell

/-- The addresses rise strictly from `lo` and stay inside the space (R51), and no listed byte is the one
an unlisted address reads as. -/
def Memory.wfFrom (lo : Nat) : Memory → Bool
  | [] => true
  | (a, b) :: rest =>
      decide (lo ≤ a) && decide (a < Config.frameLen) && b != Config.unwrittenByte && Memory.wfFrom (a + 1) rest

/-- The canonical form. -/
def Memory.wf (m : Memory) : Bool := Memory.wfFrom 0 m

/-- The byte at index `a` (R10 item 4, R56). -/
def Memory.read : Memory → Nat → Byte
  | [], _ => Config.unwrittenByte
  | (a', b) :: rest, a => if a = a' then b else Memory.read rest a

/-- One cell in front of a list, unless its byte is what an unlisted address reads as. -/
def Memory.consCell (a : Nat) (b : Byte) (m : Memory) : Memory :=
  if b = Config.unwrittenByte then m else (a, b) :: m

/-- Write of one byte at index `a` (R10 item 4), keeping the canonical form. -/
def Memory.write : Memory → Nat → Byte → Memory
  | [], a, b => Memory.consCell a b []
  | (a', b') :: rest, a, b =>
      if a < a' then Memory.consCell a b ((a', b') :: rest)
      else if a = a' then Memory.consCell a b rest
      else (a', b') :: Memory.write rest a b

/-- `MemRead(space, addr, n)`: "the result lists the bytes in increasing index" (R10 item 4). -/
def Memory.readBytes (m : Memory) (addr : Nat) : Nat → List Byte
  | 0 => []
  | n + 1 => m.read addr :: Memory.readBytes m (addr + 1) n

/-- `MemWrite(space, addr, n, v)` with `n` the length of `v` (R10 item 4). -/
def Memory.writeBytes (m : Memory) (addr : Nat) : List Byte → Memory
  | [] => m
  | b :: bs => Memory.writeBytes (m.write addr b) (addr + 1) bs

end Sys2Proof.Machine
end

