-- ==== Sys2Proof/Machine/State.lean ====
section
/-!
DEFINITION. The state of the unit (10_state.md), the events and outputs of a step (60_exceptions.md), the
actions of the four agents (00_scope.md R7), the reasons a step can stop, and the state after reset.
-/

namespace Sys2Proof.Machine

/-- The event labels (60 R241 to R247, decision D20): "a label of the step and nothing more". -/
inductive Event where
  /-- A DATA byte fed in `SEEK` (60 R241). -/
  | noiseDrop (b : Byte)
  /-- A SYNC byte fed in `SEEK` (60 R242). -/
  | syncStart
  /-- A SYNC byte fed in `COLLECT(k)`: `k` stored bytes are dropped (60 R243). -/
  | resync (k : Fin 137)
  /-- A DATA byte stored at index `c` without completing the frame (60 R247). -/
  | store (c : Fin 137)
  /-- The 137th DATA byte after a marker was stored (60 R245). -/
  | frameComplete
  /-- `decode` met the code 3 in this field (60 R244). -/
  | reservedHeaderCode (f : HeaderField)
deriving DecidableEq, Repr

/-- One point of the trace (30 R96, 43 R210). -/
structure Point where
  x : Rat
  y : ExactNum
deriving DecidableEq, Repr

/-- What a reader's action answers. -/
inductive Reply where
  | nothing
  | coupling (c : Coupling)
  | range (r : VoltRange)
  | trigger (t : Trigger)
  | timebase (index : Fin 10) (seconds : Seconds)
  | config (c : ConfigRecord)
  | number (v : ExactNum)
  | positions (ps : List Int)
  | points (ps : List Point)
  | byte (b : Byte)
  | frame (f : Frame)
  | hasData (v : Bool)
deriving DecidableEq, Repr

/-- What one step puts out (log 7): the event labels in order, the frames `feed` returned in order (one
`feed` returns one frame or none, 41 R140), and the reader's reply. -/
structure Output where
  events : List Event
  frames : List Frame
  reply : Reply
deriving DecidableEq, Repr

/-- The output of a step that puts nothing out. -/
def Output.empty : Output := ⟨[], [], .nothing⟩

/-- The input pins at one rising edge of the port binding (70 R280).  The offsets are the `DELTA_W` bits as
they are driven, read as an unsigned number. -/
structure Pins where
  rst : Bool
  inValid : Bool
  inByte : Byte
  paused : Bool
  deltaXBits : Nat
  deltaYBits : Nat
deriving DecidableEq, Repr

/-- One action of an agent (00 R7); the environment chooses their order (log 4). -/
inductive Action where
  /-- The byte source's poll: "zero or one byte per poll, or indicates none available" (70 R274). -/
  | poll (offered : Option Byte)
  /-- Bytes offered one after another and taken as one action (41 R149, log 21). -/
  | burst (bs : List Byte)
  /-- One rising clock edge of the port binding (70 R280). -/
  | edge (p : Pins)
  /-- The user-input agent writes `paused` (10 R28). -/
  | setPaused (v : Bool)
  /-- The user-input agent writes `deltaX` (10 R29). -/
  | setDeltaX (v : Int)
  /-- The user-input agent writes `deltaY` (10 R29). -/
  | setDeltaY (v : Int)
  /-- The reader decodes one field of the snapshot's header (42 R180). -/
  | decodeField (f : HeaderField)
  /-- The reader calls one of the pure functions. -/
  | call (c : Call)
  /-- The reader reads one byte of the snapshot, at one of the 137 indices the space has: "No access can
  fall outside a space" (20 R50, R51, R55). -/
  | readSnap (index : Fin 137)
  /-- The reader reads the whole snapshot (20 R59 (c)). -/
  | readFrame
  /-- The reader reads `hasData` (10 R27). -/
  | readHasData
  /-- Reset (70 R270). -/
  | reset
deriving DecidableEq, Repr

/-- Why a step can stop with a fault: for no reason.  The type has no value, since "it has no fault outcome
for this unit" (60 R240) and "No rule needs an out-of-range fault and the unit has none" (20 R51). -/
inductive Fault
deriving DecidableEq, Repr

/-- Why a step can be refused. -/
inductive Refusal where
  /-- An instruction without a meaning, rejected by name in its arm of `exec`.  Safe. -/
  | notModelled (mnemonic : String)
  /-- The snapshot is read, decoded or reconstructed while `hasData` is false: "The model gives such a read
  no value: it refuses it" (10 R33, U2).  Raised by every reader of `SNAP`.  Safe. -/
  | noFrameYet
  /-- An oversample factor below 1: "refuse: outside the parameter's domain" (U13, decision D17).  Raised
  by the RECON instructions.  Safe. -/
  | oversampleBelowOne
deriving DecidableEq, Repr

/-- The registers behind the output ports of the binding (70 R280, log 22, log 25).  Only a clock edge writes
`frameValid`, `point` and `edges`. -/
structure PortRegs where
  /-- `frame_valid`: "the step taken at the last edge was `DATA.COMPLETE`". -/
  frameValid : Bool
  /-- what `pt_valid`, `pt_x` and `pt_y` show since the last edge: a point, or `pt_valid` 0. -/
  point : Option Point
  /-- The model's own: the points of the last RECON that have not left yet, in increasing position. -/
  waiting : List Point
  /-- The model's own: the number of edges so far, the argument of the free value `Config.pointLeaves`. -/
  edges : Nat
deriving DecidableEq, Repr

/-- The port registers before any edge and any RECON. -/
def PortRegs.reset : PortRegs := ⟨false, none, [], 0⟩

/-- The machine's state. -/
structure State where
  /-- `collecting` and `cursor` (10 R21, R22). -/
  pos : Position
  /-- `buffer`, space `BUF` (10 R24, 20 R50). -/
  buf : Memory
  /-- `lastCompleteFrame`, space `SNAP` (10 R26, 20 R50). -/
  snap : Memory
  /-- `hasData` (10 R27). -/
  hasData : Bool
  /-- `paused` (10 R28). -/
  paused : Bool
  /-- `deltaX` (10 R29). -/
  deltaX : Int
  /-- `deltaY` (10 R29). -/
  deltaY : Int
  /-- The static parameters (10 R30, R31). -/
  build : Build
  /-- The registers behind the output ports (70 R280). -/
  ports : PortRegs
  /-- The model's own: the actions the agents will perform (log 4). -/
  pending : List Action
  /-- The model's own: what the last step put out (log 7). -/
  out : Output
deriving DecidableEq, Repr

/-- The machine right after reset (10 R35, 70 R270 to R272): position `SEEK` and `hasData` false, as the
spec says; the other registers as log 1, 2, 9 to 12, 15, 22 and 25 say; no action and no output yet. -/
def State.reset : State where
  pos := .seek
  buf := []
  snap := []
  hasData := false
  paused := false
  deltaX := 0
  deltaY := 0
  build := Config.build
  ports := PortRegs.reset
  pending := []
  out := Output.empty

end Sys2Proof.Machine
end

