-- ==== Sys2Proof/Machine/Ops.lean ====
section
/-!
DEFINITION. The named operations over the state: the writes of 10_state.md, the label primitive `raise`
(00_scope.md R10 item 8), the four arms of `feed` (41 R141 to R144) and their dispatch (R140), the
completion handoff (60 R250, the nearest thing this hardware has to taking an exception; it has no return,
R251), and reset (70 R270).
-/

namespace Sys2Proof.Machine

/-- `pc <- SEEK` and `pc <- COLLECT(c)` (R10 item 5). -/
def State.toPos (p : Position) (s : State) : State := { s with pos := p }

/-- `x[c] <- b` (R10 item 3, 10 R24). -/
def State.storeAt (c : Nat) (b : Byte) (s : State) : State := { s with buf := s.buf.write c b }

/-- `SNAP <- BUF`: all 137 bytes as one indivisible action (R10 item 4, 20 R55). -/
def State.copyBufToSnap (s : State) : State := { s with snap := s.buf }

/-- `hasData <- true` (10 R27). -/
def State.markData (s : State) : State := { s with hasData := true }

/-- `raise <Event>`: a label of the step; no other state changes (R10 item 8, 60 R240). -/
def State.raise (e : Event) (s : State) : State :=
  { s with out := { s.out with events := s.out.events ++ [e] } }

/-- The reader's reply of this step. -/
def State.answer (r : Reply) (s : State) : State := { s with out := { s.out with reply := r } }

/-- `emit`: the points are put out in order at `pt_x`, `pt_y`, one a clock cycle (43 R210, 70 R280, log 22). -/
def State.emit (ps : List Point) (s : State) : State :=
  { s with ports := { s.ports with waiting := ps } }

/-- The 137 bytes of the snapshot in increasing index (`MemRead(SNAP, 0, 137)`). -/
def State.snapFrame (s : State) : Frame := s.snap.readBytes 0 Config.frameLen

/-- `return Some(SNAP)` (41 R144). -/
def State.returnFrame (s : State) : State :=
  { s with out := { s.out with frames := s.out.frames ++ [s.snapFrame] } }

/-- The label a marker raises (41 R141, 60 R242, R243). -/
def syncEvent : Position → Event
  | .seek => .syncStart
  | .collect k => .resync k

/-- SYNC: "unconditionally resets `cursor` to 0 and begins (or restarts) frame collection" (41 R141). -/
def feedSync (s : State) : State := (s.toPos (.collect 0)).raise (syncEvent s.pos)

/-- DATA.STORE at `COLLECT(c)`, `c <= 135` (41 R142). -/
def storeByte (b : Byte) (c : Fin 137) (s : State) : State :=
  ((s.storeAt c.val b).toPos (positionAfter c)).raise (.store c)

/-- DATA.DROP at `SEEK` (41 R143). -/
def dropByte (b : Byte) (s : State) : State := s.raise (.noiseDrop b)

/-- DATA.COMPLETE at `COLLECT(136)`: the five writes, indivisibly, and the returned frame (41 R144, 60
R250). -/
def completeFrame (b : Byte) (s : State) : State :=
  ((((s.storeAt 136 b).copyBufToSnap.markData).toPos .seek).raise .frameComplete).returnFrame

/-- `feed(b)`: the dispatch, total on every byte in every position (41 R140). -/
def feed (b : Byte) (s : State) : State :=
  if isSync b then feedSync s
  else match s.pos with
    | .collect c => if c.val < 136 then storeByte b c s else completeFrame b s
    | .seek => dropByte b s

/-- "a chunk is fed as its bytes in order" (41 R149). -/
def feedAll (bs : List Byte) (s : State) : State := bs.foldl (fun s b => feed b s) s

/-- Reset: `collecting <- false`, `hasData <- false`, "and need set nothing else" (70 R270); the rest,
which nothing can observe before it is written (R271), stays (log 19). -/
def State.applyReset (s : State) : State := { s with pos := .seek, hasData := false }

/-- The start of a step: the action is taken off the queue and the output is new (log 4, log 7). -/
def State.startStep (rest : List Action) (s : State) : State :=
  { s with pending := rest, out := Output.empty }

/-- A read of the snapshot by the unit's readers: refused while `hasData` is false (10 R33, 70 R293). -/
def State.withFrame (s : State) (k : State → Host.Outcome State Fault Refusal) :
    Host.Outcome State Fault Refusal :=
  if s.hasData then k s else .refused .noFrameYet

end Sys2Proof.Machine
end

