-- ==== Sys2Proof/Machine/Feed.lean ====
section
/-!
DEFINITION. The meanings of the family FEED (41_frame_synchronizer.md): SYNC, and DATA.STORE,
DATA.COMPLETE and DATA.DROP, each with the four DATA patterns of 30_encoding.md R81.

A DATA row names the position at which it is the arm (its `when`).  The byte alone does not: at any other
position 41 R140 sends the same byte to another arm, and so does the meaning (log 6), since "no input and no
state makes the unit stop, fault, trap or refuse" (60 R240).
-/

namespace Sys2Proof.Machine

/-- SYNC (41 R141): its free bits "are not stored and not used" (30 R82). -/
def execSync (_a _b : BitVec 1) (_cc : BitVec 2) (s : State) : Host.Outcome State Fault Refusal :=
  .next (feedSync s)

/-- The byte of a DATA.STORE row: stored at `COLLECT(c)`, `c <= 135` (41 R142). -/
def storeArm (b : Byte) (s : State) : Host.Outcome State Fault Refusal :=
  match s.pos with
  | .collect c => if c.val < 136 then .next (storeByte b c s) else .next (feed b s)
  | .seek => .next (feed b s)

/-- The byte of a DATA.COMPLETE row: completes the frame at `COLLECT(136)` (41 R144). -/
def completeArm (b : Byte) (s : State) : Host.Outcome State Fault Refusal :=
  match s.pos with
  | .collect c => if c.val < 136 then .next (feed b s) else .next (completeFrame b s)
  | .seek => .next (feed b s)

/-- The byte of a DATA.DROP row: discarded at `SEEK` (41 R143). -/
def dropArm (b : Byte) (s : State) : Host.Outcome State Fault Refusal :=
  match s.pos with
  | .collect _ => .next (feed b s)
  | .seek => .next (dropByte b s)

/-- DATA.STORE, pattern `a0bbbbbb` (41 R142). -/
def execDataStoreClear6 (a : BitVec 1) (b : BitVec 6) (s : State) : Host.Outcome State Fault Refusal :=
  storeArm (byteClear6 a b) s

/-- DATA.STORE, pattern `a1b0cccc` (41 R142). -/
def execDataStoreClear4 (a b : BitVec 1) (c : BitVec 4) (s : State) : Host.Outcome State Fault Refusal :=
  storeArm (byteClear4 a b c) s

/-- DATA.STORE, pattern `a1b10ccc` (41 R142). -/
def execDataStoreClear3 (a b : BitVec 1) (c : BitVec 3) (s : State) : Host.Outcome State Fault Refusal :=
  storeArm (byteClear3 a b c) s

/-- DATA.STORE, pattern `a1b110cc` (41 R142). -/
def execDataStoreClear2 (a b : BitVec 1) (c : BitVec 2) (s : State) : Host.Outcome State Fault Refusal :=
  storeArm (byteClear2 a b c) s

/-- DATA.COMPLETE, pattern `a0bbbbbb` (41 R144). -/
def execDataCompleteClear6 (a : BitVec 1) (b : BitVec 6) (s : State) : Host.Outcome State Fault Refusal :=
  completeArm (byteClear6 a b) s

/-- DATA.COMPLETE, pattern `a1b0cccc` (41 R144). -/
def execDataCompleteClear4 (a b : BitVec 1) (c : BitVec 4) (s : State) : Host.Outcome State Fault Refusal :=
  completeArm (byteClear4 a b c) s

/-- DATA.COMPLETE, pattern `a1b10ccc` (41 R144). -/
def execDataCompleteClear3 (a b : BitVec 1) (c : BitVec 3) (s : State) : Host.Outcome State Fault Refusal :=
  completeArm (byteClear3 a b c) s

/-- DATA.COMPLETE, pattern `a1b110cc` (41 R144). -/
def execDataCompleteClear2 (a b : BitVec 1) (c : BitVec 2) (s : State) : Host.Outcome State Fault Refusal :=
  completeArm (byteClear2 a b c) s

/-- DATA.DROP, pattern `a0bbbbbb` (41 R143). -/
def execDataDropClear6 (a : BitVec 1) (b : BitVec 6) (s : State) : Host.Outcome State Fault Refusal :=
  dropArm (byteClear6 a b) s

/-- DATA.DROP, pattern `a1b0cccc` (41 R143). -/
def execDataDropClear4 (a b : BitVec 1) (c : BitVec 4) (s : State) : Host.Outcome State Fault Refusal :=
  dropArm (byteClear4 a b c) s

/-- DATA.DROP, pattern `a1b10ccc` (41 R143). -/
def execDataDropClear3 (a b : BitVec 1) (c : BitVec 3) (s : State) : Host.Outcome State Fault Refusal :=
  dropArm (byteClear3 a b c) s

/-- DATA.DROP, pattern `a1b110cc` (41 R143). -/
def execDataDropClear2 (a b : BitVec 1) (c : BitVec 2) (s : State) : Host.Outcome State Fault Refusal :=
  dropArm (byteClear2 a b c) s

end Sys2Proof.Machine
end

