-- ==== Sys2Proof/Machine/Operands.lean ====
section
/-!
DEFINITION. The operand forms: the header fields (30_encoding.md R93), the samples (R93, 43 R212), the
oversample factor, the timebase table and the offsets at the ports.
-/

namespace Sys2Proof.Machine

/-- `h0 = SNAP[0]`, `h1 = SNAP[1]`, `h2 = SNAP[2]`: the header byte that holds a field (30 R93). -/
def headerIndex : HeaderField → Nat
  | .coupling => 0
  | .range => 0
  | .timebase => 1
  | .trigger => 2

/-- The header byte that holds a field, from the snapshot. -/
def State.headerByte (f : HeaderField) (s : State) : Byte := s.snap.read (headerIndex f)

/-- `coupling = h0[5:4]` and its table (30 R86, 42 R181). -/
def couplingOf (h0 : Byte) : Coupling :=
  if bitsOf h0 4 2 = 0#2 then .gnd
  else if bitsOf h0 4 2 = 1#2 then .ac
  else if bitsOf h0 4 2 = 2#2 then .dc
  else .reserved

/-- `range = h0[3:2]` and its table (30 R87, 42 R182). -/
def rangeOf (h0 : Byte) : VoltRange :=
  if bitsOf h0 2 2 = 0#2 then .one
  else if bitsOf h0 2 2 = 1#2 then .ten
  else if bitsOf h0 2 2 = 2#2 then .hundred
  else .reserved

/-- The trigger flags of `h2`, "tested in fixed priority order" (30 R89, 42 R183). -/
def triggerOf (h2 : Byte) : Trigger :=
  if h2.getLsbD 6 then .plusInternal
  else if h2.getLsbD 5 then .minusInternal
  else if h2.getLsbD 4 then .plusExternal
  else if h2.getLsbD 3 then .minusExternal
  else .auto

/-- `min(tbcode, 9)`: "codes of 10 and above" index the slowest entry (30 R88, R95, 42 R184). -/
def timebaseIndexOf (h1 : Byte) : Fin 10 :=
  if h : h1.toNat < 10 then ⟨h1.toNat, h⟩ else 9

/-- `TIMEBASE[k]` in seconds: 50e-9 for code 0, the build's table for the others (10 R31, 42 R184). -/
def timebaseSeconds (bd : Build) (k : Fin 10) : Seconds :=
  if h : 0 < k.val then bd.openTimebase[k.val - 1]'(by omega) else Config.timebase0

/-- "`5 unless the caller says otherwise`" (43 R210). -/
def oversampleOf (o : Option Int) : Int := o.getD Config.defaultOversample

/-- `clamp(j, lo, hi)` (R10 item 7). -/
def clamp (j lo hi : Int) : Int := if j < lo then lo else if hi < j then hi else j

/-- `s[n] = SNAP[SAMPLE_BASE + n]` (30 R93). -/
def State.sample (s : State) (n : Nat) : Byte := s.snap.read (s.build.sampleBase.val + n)

/-- `samples[clamp(j, 0, 127)] / 64.0`, real division: the value is clamped, the offset is not (43 R212,
R218). -/
def sampleValue (samples : Nat → Byte) (j : Int) : Rat :=
  ((samples (clamp j 0 127).toNat).toNat : Rat) / Config.divisor

/-- A `DELTA_W`-bit offset at a port: two's complement, sign-extended (10 R29, 43 R222, 70 R280). -/
def offsetOfPins (w bits : Nat) : Int := (BitVec.ofNat w bits).toInt

end Sys2Proof.Machine
end

