-- ==== Sys2Proof/Machine/HeaderDecode.lean ====
section
/-!
DEFINITION. The meanings of the family DECODE (42_frame_decoder.md).  Each row of the table stands for one
value of one field of the snapshot's header; the field's other bits "do not change the result" (42 R181 to
R183).  Every one of them reads the snapshot, so it is refused while `hasData` is false (10 R33).
-/

namespace Sys2Proof.Machine

/-- `ReservedHeaderCode(field)` where the code is 3: a label only (60 R244). -/
def State.raiseIfReserved (f : HeaderField) (reserved : Bool) (s : State) : State :=
  if reserved then s.raise (.reservedHeaderCode f) else s

/-- The coupling component as the reply (42 R181). -/
def replyCoupling (c : Coupling) (s : State) : Host.Outcome State Fault Refusal :=
  s.withFrame fun s => .next ((s.raiseIfReserved .coupling (c == .reserved)).answer (.coupling c))

/-- The range component as the reply (42 R182). -/
def replyRange (r : VoltRange) (s : State) : Host.Outcome State Fault Refusal :=
  s.withFrame fun s => .next ((s.raiseIfReserved .range (r == .reserved)).answer (.range r))

/-- The trigger component as the reply (42 R183). -/
def replyTrigger (t : Trigger) (s : State) : Host.Outcome State Fault Refusal :=
  s.withFrame fun s => .next (s.answer (.trigger t))

/-- The timebase component as the reply: the index and the seconds it stands for (42 R184, 30 R95). -/
def replyTimebase (k : Fin 10) (s : State) : Host.Outcome State Fault Refusal :=
  s.withFrame fun s => .next (s.answer (.timebase k (timebaseSeconds s.build k)))

/-- `decode(frame)` on the three header bytes (42 R180). -/
def configOf (bd : Build) (h0 h1 h2 : Byte) : ConfigRecord where
  coupling := couplingOf h0
  range := rangeOf h0
  trigger := triggerOf h2
  timebaseIndex := timebaseIndexOf h1
  timebase := timebaseSeconds bd (timebaseIndexOf h1)

/-- DECODE (42 R180): the four components, independently; "one call can report" `ReservedHeaderCode` "for
coupling, for range, or for both" (60 R248).  DESIGN CHOICE (log 26), unsafe: of two labels, coupling's comes
first in the list; the spec gives them no order. -/
def execDecode (s : State) : Host.Outcome State Fault Refusal :=
  s.withFrame fun s =>
    .next
      (((s.raiseIfReserved .coupling (couplingOf (s.snap.read 0) == .reserved)).raiseIfReserved .range
          (rangeOf (s.snap.read 0) == .reserved)).answer
        (.config (configOf s.build (s.snap.read 0) (s.snap.read 1) (s.snap.read 2))))

/-- DECODE.COUPLING.GND (42 R181). -/
def execDecodeCouplingGnd (_aa _bb _cc : BitVec 2) (s : State) : Host.Outcome State Fault Refusal :=
  replyCoupling .gnd s

/-- DECODE.COUPLING.AC (42 R181). -/
def execDecodeCouplingAc (_aa _bb _cc : BitVec 2) (s : State) : Host.Outcome State Fault Refusal :=
  replyCoupling .ac s

/-- DECODE.COUPLING.DC (42 R181). -/
def execDecodeCouplingDc (_aa _bb _cc : BitVec 2) (s : State) : Host.Outcome State Fault Refusal :=
  replyCoupling .dc s

/-- DECODE.COUPLING.RESERVED (42 R181). -/
def execDecodeCouplingReserved (_aa _bb _cc : BitVec 2) (s : State) : Host.Outcome State Fault Refusal :=
  replyCoupling .reserved s

/-- DECODE.RANGE.1V (42 R182). -/
def execDecodeRange1v (_aa _bb _cc : BitVec 2) (s : State) : Host.Outcome State Fault Refusal :=
  replyRange .one s

/-- DECODE.RANGE.10V (42 R182). -/
def execDecodeRange10v (_aa _bb _cc : BitVec 2) (s : State) : Host.Outcome State Fault Refusal :=
  replyRange .ten s

/-- DECODE.RANGE.100V (42 R182). -/
def execDecodeRange100v (_aa _bb _cc : BitVec 2) (s : State) : Host.Outcome State Fault Refusal :=
  replyRange .hundred s

/-- DECODE.RANGE.RESERVED (42 R182). -/
def execDecodeRangeReserved (_aa _bb _cc : BitVec 2) (s : State) : Host.Outcome State Fault Refusal :=
  replyRange .reserved s

/-- DECODE.TIMEBASE.0 (42 R184). -/
def execDecodeTimebase0 (s : State) : Host.Outcome State Fault Refusal :=
  replyTimebase 0 s

/-- DECODE.TIMEBASE.1 (42 R184). -/
def execDecodeTimebase1 (s : State) : Host.Outcome State Fault Refusal :=
  replyTimebase 1 s

/-- DECODE.TIMEBASE.2 (42 R184). -/
def execDecodeTimebase2 (s : State) : Host.Outcome State Fault Refusal :=
  replyTimebase 2 s

/-- DECODE.TIMEBASE.3 (42 R184). -/
def execDecodeTimebase3 (s : State) : Host.Outcome State Fault Refusal :=
  replyTimebase 3 s

/-- DECODE.TIMEBASE.4 (42 R184). -/
def execDecodeTimebase4 (s : State) : Host.Outcome State Fault Refusal :=
  replyTimebase 4 s

/-- DECODE.TIMEBASE.5 (42 R184). -/
def execDecodeTimebase5 (s : State) : Host.Outcome State Fault Refusal :=
  replyTimebase 5 s

/-- DECODE.TIMEBASE.6 (42 R184). -/
def execDecodeTimebase6 (s : State) : Host.Outcome State Fault Refusal :=
  replyTimebase 6 s

/-- DECODE.TIMEBASE.7 (42 R184). -/
def execDecodeTimebase7 (s : State) : Host.Outcome State Fault Refusal :=
  replyTimebase 7 s

/-- DECODE.TIMEBASE.8 (42 R184). -/
def execDecodeTimebase8 (s : State) : Host.Outcome State Fault Refusal :=
  replyTimebase 8 s

/-- DECODE.TIMEBASE.9 (42 R184). -/
def execDecodeTimebase9 (s : State) : Host.Outcome State Fault Refusal :=
  replyTimebase 9 s

/-- DECODE.TIMEBASE.FALLBACK, codes 10 to 11: "`TIMEBASE[9]`" (42 R184). -/
def execDecodeTimebaseFallback10 (_a : BitVec 1) (s : State) : Host.Outcome State Fault Refusal :=
  replyTimebase 9 s

/-- DECODE.TIMEBASE.FALLBACK, codes 12 to 15: "`TIMEBASE[9]`" (42 R184). -/
def execDecodeTimebaseFallback12 (_aa : BitVec 2) (s : State) : Host.Outcome State Fault Refusal :=
  replyTimebase 9 s

/-- DECODE.TIMEBASE.FALLBACK, codes 16 to 31: "`TIMEBASE[9]`" (42 R184). -/
def execDecodeTimebaseFallback16 (_a : BitVec 4) (s : State) : Host.Outcome State Fault Refusal :=
  replyTimebase 9 s

/-- DECODE.TIMEBASE.FALLBACK, codes 32 to 63: "`TIMEBASE[9]`" (42 R184). -/
def execDecodeTimebaseFallback32 (_a : BitVec 5) (s : State) : Host.Outcome State Fault Refusal :=
  replyTimebase 9 s

/-- DECODE.TIMEBASE.FALLBACK, codes 64 to 127: "`TIMEBASE[9]`" (42 R184). -/
def execDecodeTimebaseFallback64 (_a : BitVec 6) (s : State) : Host.Outcome State Fault Refusal :=
  replyTimebase 9 s

/-- DECODE.TIMEBASE.FALLBACK, codes 128 to 255: "`TIMEBASE[9]`" (42 R184). -/
def execDecodeTimebaseFallback128 (_a : BitVec 7) (s : State) : Host.Outcome State Fault Refusal :=
  replyTimebase 9 s

/-- DECODE.TRIGGER.PLUS_INTERNAL (42 R183). -/
def execDecodeTriggerPlusInternal (_a : BitVec 1) (_b _c : BitVec 3) (s : State) : Host.Outcome State Fault Refusal :=
  replyTrigger .plusInternal s

/-- DECODE.TRIGGER.MINUS_INTERNAL (42 R183). -/
def execDecodeTriggerMinusInternal (_a : BitVec 1) (_b : BitVec 2) (_c : BitVec 3) (s : State) : Host.Outcome State Fault Refusal :=
  replyTrigger .minusInternal s

/-- DECODE.TRIGGER.PLUS_EXTERNAL (42 R183). -/
def execDecodeTriggerPlusExternal (_a _b : BitVec 1) (_c : BitVec 3) (s : State) : Host.Outcome State Fault Refusal :=
  replyTrigger .plusExternal s

/-- DECODE.TRIGGER.MINUS_EXTERNAL (42 R183). -/
def execDecodeTriggerMinusExternal (_a : BitVec 1) (_c : BitVec 3) (s : State) : Host.Outcome State Fault Refusal :=
  replyTrigger .minusExternal s

/-- DECODE.TRIGGER.AUTO (42 R183). -/
def execDecodeTriggerAuto (_a : BitVec 1) (_c : BitVec 3) (s : State) : Host.Outcome State Fault Refusal :=
  replyTrigger .auto s

end Sys2Proof.Machine
end

