-- ==== Sys2Proof/Machine/Exact.lean ====
section
/-!
DEFINITION. Exact arithmetic on the numbers of the real-valued datapath (43_waveform_reconstructor.md
R222): "products and sums are exact; there is no overflow, no rounding, no saturation".
-/

namespace Sys2Proof.Machine

/-- A rational number. -/
def ratNum (q : Rat) : ExactNum := ⟨q, []⟩

/-- Adds `c * sinc a * sinc (a / 3)` to a list of terms, keeping offsets rising and no coefficient zero. -/
def insertTerm (c a : Rat) : List (Rat × Rat) → List (Rat × Rat)
  | [] => if c = 0 then [] else [(c, a)]
  | (c', a') :: rest =>
      if c = 0 then (c', a') :: rest
      else if a < a' then (c, a) :: (c', a') :: rest
      else if a = a' then (if c + c' = 0 then rest else (c + c', a') :: rest)
      else (c', a') :: insertTerm c a rest

/-- The exact sum. -/
def addNum (x y : ExactNum) : ExactNum :=
  ⟨x.rat + y.rat, y.terms.foldl (fun ts t => insertTerm t.1 t.2 ts) x.terms⟩

/-- The exact product with a rational number. -/
def scaleNum (q : Rat) (x : ExactNum) : ExactNum :=
  if q = 0 then ratNum 0 else ⟨q * x.rat, x.terms.map fun t => (q * t.1, t.2)⟩

end Sys2Proof.Machine
end

