-- ==== Sys2Proof/Machine/Kernel.lean ====
section
/-!
DEFINITION. The Filter Kernel (40_filter_kernel.md, family KERNEL): two stateless functions from an offset
to a weight, and the two instructions.
-/

namespace Sys2Proof.Machine

/-- `kernel_bspline3(t)`: the uniform cubic B-spline (40 R113). -/
def bspline3 (t : Rat) : Rat :=
  if |t| < 1 then 2 / 3 - |t| ^ 2 + |t| ^ 3 / 2
  else if |t| < 2 then (2 - |t|) ^ 3 / 6
  else 0

/-- `kernel_lanczos3(t) = sinc(a) * sinc(a/3)` for `a = |t| < 3`, else 0 (40 R115).  At an integer offset
the value is rational: 1 at 0 "exactly (no division-by-zero)", 0 at the others because `sinc` of a
non-zero integer is 0 (R115, R117); elsewhere it is the one term at `a` (log 14). -/
def lanczos3 (t : Rat) : ExactNum :=
  if |t| < 3 then
    if |t| = 0 then ratNum 1
    else if |t|.den = 1 then ratNum 0
    else ⟨0, [(1, |t|)]⟩
  else ratNum 0

/-- `kernel(t)` of a family (40 R110, R111). -/
def kernelAt (k : KernelFamily) (t : Rat) : ExactNum :=
  match k with
  | .bspline3 => ratNum (bspline3 t)
  | .lanczos3 => lanczos3 t

/-- `R_SUPPORT` (40 R111). -/
def supportRadius : KernelFamily → Nat
  | .bspline3 => 2
  | .lanczos3 => 3

/-- KERNEL.BSPLINE3 (40 R113): "reads no state and writes none" (R110); the weight is the reply. -/
def execKernelBspline3 (t : Rat) (s : State) : Host.Outcome State Fault Refusal :=
  .next (s.answer (.number (ratNum (bspline3 t))))

/-- KERNEL.LANCZOS3 (40 R115, R116). -/
def execKernelLanczos3 (t : Rat) (s : State) : Host.Outcome State Fault Refusal :=
  .next (s.answer (.number (lanczos3 t)))

end Sys2Proof.Machine
end

