-- ==== Sys2Proof/Machine/Recon.lean ====
section
/-!
DEFINITION. The Waveform Reconstructor (43_waveform_reconstructor.md, family RECON): positions, amplitude,
the two coordinates, the point sequence, and the five instructions.
-/

namespace Sys2Proof.Machine

/-- `I_BEGIN = -O` (43 R211). -/
def positionsBegin (o : Int) : Int := -o

/-- `I_END`, the build's rule (43 R211, decision D12). -/
def positionsEndOf : PositionsEnd → Int → Int
  | .halfOpen, o => 129 * o
  | .closed, o => 129 * o + 1
  | .counted, o => 130 * o
  | .fixed e, _ => e

/-- "the consecutive integers `i` with `I_BEGIN <= i < I_END`", in increasing order (43 R211, R216). -/
def positions (e : PositionsEnd) (o : Int) : List Int :=
  (List.range (positionsEndOf e o - positionsBegin o).toNat).map fun k : Nat => positionsBegin o + (k : Int)

/-- The fractional sample index `p = i / O`, exact division (43 R211). -/
def fractionalIndex (i o : Int) : Rat := (i : Rat) / (o : Rat)

/-- The tap indices around `n = floor(p)` (43 R213): `n-1` to `n+2`, and `n-2` to `n+3`. -/
def taps (k : KernelFamily) (n : Int) : List Int :=
  match k with
  | .bspline3 => [n - 1, n, n + 1, n + 2]
  | .lanczos3 => [n - 2, n - 1, n, n + 1, n + 2, n + 3]

/-- `w * v` of one tap: the weight at the true offset times the value at the clamped index (43 R212). -/
def tapTerm (k : KernelFamily) (samples : Nat → Byte) (p : Rat) (j : Int) : ExactNum :=
  scaleNum (sampleValue samples j) (kernelAt k (p - (j : Rat)))

/-- `amplitude(samples, i, O)` (43 R212): the weighted sum, never normalised; `i / O` is the floor, `O`
being at least 1. -/
def amplitude (k : KernelFamily) (samples : Nat → Byte) (i o : Int) : ExactNum :=
  (taps k (i / o)).foldl (fun acc j => addNum acc (tapTerm k samples (fractionalIndex i o) j)) (ratNum 0)

/-- `xcoord(i, deltaX, O) = (i + deltaX) / (O * 128)` (43 R214). -/
def xcoord (i deltaX o : Int) : Rat := ((i + deltaX : Int) : Rat) / ((o * 128 : Int) : Rat)

/-- `ycoord(a, deltaY) = Y_MIN + deltaY * 0.01 + (Y_MAX - Y_MIN) * a` (43 R215). -/
def ycoord (a : ExactNum) (deltaY : Int) : ExactNum :=
  addNum (ratNum (Config.yMin + (deltaY : Rat) * Config.yStep)) (scaleNum (Config.yMax - Config.yMin) a)

/-- One emitted point (43 R210). -/
def pointAt (bd : Build) (samples : Nat → Byte) (deltaX deltaY o i : Int) : Point :=
  ⟨xcoord i deltaX o, ycoord (amplitude bd.kernel samples i o) deltaY⟩

/-- `reconstruct(samples, deltaX, deltaY, O)` (43 R210). -/
def reconstruct (bd : Build) (samples : Nat → Byte) (deltaX deltaY o : Int) : List Point :=
  (positions bd.positionsEnd o).map (pointAt bd samples deltaX deltaY o)

/-- An oversample factor below 1 is refused (U13, decision D17). -/
def withOversample (o : Int) (r : Host.Outcome State Fault Refusal) : Host.Outcome State Fault Refusal :=
  if oversampleOk o then r else .refused .oversampleBelowOne

/-- The points as the reply and at the ports (43 R210: "emit"). -/
def State.replyPoints (ps : List Point) (s : State) : State := (s.answer (.points ps)).emit ps

/-- RECON (43 R210, R221): on the current snapshot and the current offsets. -/
def execRecon (oversample : Option Int) (s : State) : Host.Outcome State Fault Refusal :=
  s.withFrame fun s =>
    withOversample (oversampleOf oversample)
      (.next (s.replyPoints (reconstruct s.build s.sample s.deltaX s.deltaY (oversampleOf oversample))))

/-- RECON.POSITIONS (43 R211); it reads no snapshot (log 16). -/
def execReconPositions (o : Int) (s : State) : Host.Outcome State Fault Refusal :=
  withOversample o (.next (s.answer (.positions (positions s.build.positionsEnd o))))

/-- RECON.AMPLITUDE (43 R212). -/
def execReconAmplitude (i o : Int) (s : State) : Host.Outcome State Fault Refusal :=
  s.withFrame fun s =>
    withOversample o (.next (s.answer (.number (amplitude s.build.kernel s.sample i o))))

/-- RECON.XCOORD (43 R214); it reads no snapshot (log 16). -/
def execReconXcoord (i deltaX o : Int) (s : State) : Host.Outcome State Fault Refusal :=
  withOversample o (.next (s.answer (.number (ratNum (xcoord i deltaX o)))))

/-- RECON.YCOORD (43 R215); it reads no snapshot (log 16). -/
def execReconYcoord (a : ExactNum) (deltaY : Int) (s : State) : Host.Outcome State Fault Refusal :=
  .next (s.answer (.number (ycoord a deltaY)))

end Sys2Proof.Machine
end

