-- ==== Sys2Proof/Machine/StreamNotation.lean ====
section
/-!
DEFINITION. The meanings of the stream notation's two pseudo-instructions (30_encoding.md R97): "semantics
are those of its expansion (R141, R142, R144)" and "semantics are R143" (the table's notes).
-/

namespace Sys2Proof.Machine

/-- FRAME(h0, h1, h2, h3, S, T): its 138 bytes fed in order (30 R97). -/
def execFrame (h0 h1 h2 h3 : Byte) (samples trailer : List Byte) (s : State) :
    Host.Outcome State Fault Refusal :=
  .next (feedAll (frameBytes h0 h1 h2 h3 samples trailer) s)

/-- NOISE(B): its bytes fed in order (30 R97); at `SEEK` each DATA byte is dropped (41 R143). -/
def execNoise (bytes : List Byte) (s : State) : Host.Outcome State Fault Refusal :=
  .next (feedAll bytes s)

end Sys2Proof.Machine
end

