-- ==== Sys2Proof/Machine/Dispatch.lean ====
section
/-! DEFINITION. One arm for each constructor of `Instr`, each a direct call of its meaning. -/

namespace Sys2Proof.Machine

def exec (i : Instr) (s : State) : Host.Outcome State Fault Refusal :=
  match i with
  | .sync a b cc => Sys2Proof.Machine.execSync a b cc s
  | .dataStoreClear6 a b => Sys2Proof.Machine.execDataStoreClear6 a b s
  | .dataStoreClear4 a b c => Sys2Proof.Machine.execDataStoreClear4 a b c s
  | .dataStoreClear3 a b c => Sys2Proof.Machine.execDataStoreClear3 a b c s
  | .dataStoreClear2 a b c => Sys2Proof.Machine.execDataStoreClear2 a b c s
  | .dataCompleteClear6 a b => Sys2Proof.Machine.execDataCompleteClear6 a b s
  | .dataCompleteClear4 a b c => Sys2Proof.Machine.execDataCompleteClear4 a b c s
  | .dataCompleteClear3 a b c => Sys2Proof.Machine.execDataCompleteClear3 a b c s
  | .dataCompleteClear2 a b c => Sys2Proof.Machine.execDataCompleteClear2 a b c s
  | .dataDropClear6 a b => Sys2Proof.Machine.execDataDropClear6 a b s
  | .dataDropClear4 a b c => Sys2Proof.Machine.execDataDropClear4 a b c s
  | .dataDropClear3 a b c => Sys2Proof.Machine.execDataDropClear3 a b c s
  | .dataDropClear2 a b c => Sys2Proof.Machine.execDataDropClear2 a b c s
  | .decodeCouplingGnd aa bb cc => Sys2Proof.Machine.execDecodeCouplingGnd aa bb cc s
  | .decodeCouplingAc aa bb cc => Sys2Proof.Machine.execDecodeCouplingAc aa bb cc s
  | .decodeCouplingDc aa bb cc => Sys2Proof.Machine.execDecodeCouplingDc aa bb cc s
  | .decodeCouplingReserved aa bb cc => Sys2Proof.Machine.execDecodeCouplingReserved aa bb cc s
  | .decodeRange1v aa bb cc => Sys2Proof.Machine.execDecodeRange1v aa bb cc s
  | .decodeRange10v aa bb cc => Sys2Proof.Machine.execDecodeRange10v aa bb cc s
  | .decodeRange100v aa bb cc => Sys2Proof.Machine.execDecodeRange100v aa bb cc s
  | .decodeRangeReserved aa bb cc => Sys2Proof.Machine.execDecodeRangeReserved aa bb cc s
  | .decodeTimebase0 => Sys2Proof.Machine.execDecodeTimebase0 s
  | .decodeTimebase1 => Sys2Proof.Machine.execDecodeTimebase1 s
  | .decodeTimebase2 => Sys2Proof.Machine.execDecodeTimebase2 s
  | .decodeTimebase3 => Sys2Proof.Machine.execDecodeTimebase3 s
  | .decodeTimebase4 => Sys2Proof.Machine.execDecodeTimebase4 s
  | .decodeTimebase5 => Sys2Proof.Machine.execDecodeTimebase5 s
  | .decodeTimebase6 => Sys2Proof.Machine.execDecodeTimebase6 s
  | .decodeTimebase7 => Sys2Proof.Machine.execDecodeTimebase7 s
  | .decodeTimebase8 => Sys2Proof.Machine.execDecodeTimebase8 s
  | .decodeTimebase9 => Sys2Proof.Machine.execDecodeTimebase9 s
  | .decodeTimebaseFallback10 a => Sys2Proof.Machine.execDecodeTimebaseFallback10 a s
  | .decodeTimebaseFallback12 aa => Sys2Proof.Machine.execDecodeTimebaseFallback12 aa s
  | .decodeTimebaseFallback16 a => Sys2Proof.Machine.execDecodeTimebaseFallback16 a s
  | .decodeTimebaseFallback32 a => Sys2Proof.Machine.execDecodeTimebaseFallback32 a s
  | .decodeTimebaseFallback64 a => Sys2Proof.Machine.execDecodeTimebaseFallback64 a s
  | .decodeTimebaseFallback128 a => Sys2Proof.Machine.execDecodeTimebaseFallback128 a s
  | .decodeTriggerPlusInternal a b c => Sys2Proof.Machine.execDecodeTriggerPlusInternal a b c s
  | .decodeTriggerMinusInternal a b c => Sys2Proof.Machine.execDecodeTriggerMinusInternal a b c s
  | .decodeTriggerPlusExternal a b c => Sys2Proof.Machine.execDecodeTriggerPlusExternal a b c s
  | .decodeTriggerMinusExternal a c => Sys2Proof.Machine.execDecodeTriggerMinusExternal a c s
  | .decodeTriggerAuto a c => Sys2Proof.Machine.execDecodeTriggerAuto a c s
  | .kernelBspline3 t => Sys2Proof.Machine.execKernelBspline3 t s
  | .kernelLanczos3 t => Sys2Proof.Machine.execKernelLanczos3 t s
  | .decode => Sys2Proof.Machine.execDecode s
  | .recon oversample => Sys2Proof.Machine.execRecon oversample s
  | .reconPositions o => Sys2Proof.Machine.execReconPositions o s
  | .reconAmplitude p o => Sys2Proof.Machine.execReconAmplitude p o s
  | .reconXcoord p deltaX o => Sys2Proof.Machine.execReconXcoord p deltaX o s
  | .reconYcoord a deltaY => Sys2Proof.Machine.execReconYcoord a deltaY s
  | .frame h0 h1 h2 h3 samples trailer => Sys2Proof.Machine.execFrame h0 h1 h2 h3 samples trailer s
  | .noise bytes => Sys2Proof.Machine.execNoise bytes s

end Sys2Proof.Machine
end

