-- ==== Sys2Proof/Machine/Fetch.lean ====
section
/-!
DEFINITION. What an agent's action does beside an instruction, and the instruction it leads to: the gate
of `paused` (41 R147, R148), the port binding's edge (70 R280), the user-input agent's writes (10 R28,
R29), the reader's plain reads (20 R59), reset (70 R270), and where an instruction's bits come from.
-/

namespace Sys2Proof.Machine

/-- The input pins that are read as the externally written cells (70 R280, 10 R28, R29). -/
def State.samplePins (p : Pins) (s : State) : State :=
  { s with
    paused := p.paused
    deltaX := offsetOfPins s.build.deltaW p.deltaXBits
    deltaY := offsetOfPins s.build.deltaW p.deltaYBits }

/-- "A `feed(in_byte)` step is taken at a rising edge if and only if `rst == 0 and in_valid == 1 and paused
== 0` at that edge" (70 R280). -/
def Pins.takesByte (p : Pins) : Bool := !p.rst && p.inValid && !p.paused

/-- The step that a byte takes at a position is DATA.COMPLETE (41 R144). -/
def completesFrame (pos : Position) (b : Byte) : Bool := isData b && pos == .collect 136

/-- The port registers after an edge: `frame_valid` for one cycle, and "one reconstructed point per cycle
where `pt_valid`, in increasing position" (70 R280); at which edges a point leaves is open (log 22). -/
def PortRegs.clock (completes : Bool) (r : PortRegs) : PortRegs :=
  if Config.pointLeaves r.edges then ⟨completes, r.waiting.head?, r.waiting.tail, r.edges + 1⟩
  else ⟨completes, none, r.waiting, r.edges + 1⟩

/-- The port registers are clocked. -/
def State.clockPorts (completes : Bool) (s : State) : State := { s with ports := s.ports.clock completes }

/-- What one rising edge does before a byte is fed: the port registers are clocked, the inputs sampled. -/
def State.atEdge (p : Pins) (s : State) : State :=
  (s.samplePins p).clockPorts (p.takesByte && completesFrame s.pos p.inByte)

/-- One rising edge: reset while `rst` is high (70 R272); otherwise the byte is taken or not (R280). -/
def fetchEdge (p : Pins) (s : State) : State × Option Encoded :=
  if p.rst then ((s.atEdge p).applyReset, none)
  else if p.takesByte then (s.atEdge p, some (.stream p.inByte))
  else (s.atEdge p, none)

/-- What an action does before an instruction runs, and the instruction it gives the decoder, if any.
A header row's bits come from the snapshot (42 R180), a stream row's from the byte source. -/
def fetch (a : Action) (s : State) : Host.Outcome (State × Option Encoded) Fault Refusal :=
  match a with
  | .poll none => .next (s, none)
  | .poll (some b) => .next (s, if s.paused then none else some (.stream b))
  | .burst bs => .next (s, if s.paused then none else some (.burst bs))
  | .edge p => .next (fetchEdge p s)
  | .setPaused v => .next ({ s with paused := v }, none)
  | .setDeltaX v => .next ({ s with deltaX := v }, none)
  | .setDeltaY v => .next ({ s with deltaY := v }, none)
  | .decodeField f => .next (s, some (.header f (s.headerByte f)))
  | .call c => .next (s, some (.call c))
  | .readSnap n =>
      if s.hasData = false then .refused .noFrameYet
      else .next (s.answer (.byte (s.snap.read n.val)), none)
  | .readFrame =>
      if s.hasData = false then .refused .noFrameYet else .next (s.answer (.frame s.snapFrame), none)
  | .readHasData => .next (s.answer (.hasData s.hasData), none)
  | .reset => .next (s.applyReset, none)

/-- The context in which the decoder reads (41 R140, 40 R111). -/
def State.decodeContext (s : State) : DecodeContext := ⟨s.pos, s.build.kernel⟩

/-- The bytes of a burst that no notation stands for are fed one by one (41 R149). -/
def burstBytes : Encoded → List Byte
  | .burst bs => bs
  | .stream _ | .header _ _ | .call _ => []

/-- The action by which an encoded instruction reaches the unit. -/
def actionOf : Encoded → Action
  | .stream b => .poll (some b)
  | .burst bs => .burst bs
  | .header f _ => .decodeField f
  | .call c => .call c

end Sys2Proof.Machine
end

