-- ==== Sys2Proof/Machine/Run.lean ====
section
/-!
DEFINITION. What follows an action: its instruction is decoded and runs.
-/

namespace Sys2Proof.Machine

/-- The decoded instruction runs; a burst that no notation stands for is fed byte by byte (log 21). -/
def runEncoded (w : Encoded) (s : State) : Host.Outcome State Fault Refusal :=
  match decodeWord s.decodeContext w with
  | .ok i => exec i s
  | .error _ => .next (feedAll (burstBytes w) s)

/-- What follows an action: its instruction, or nothing. -/
def afterFetch : Host.Outcome (State × Option Encoded) Fault Refusal → Host.Outcome State Fault Refusal
  | .next (s, none) => .next s
  | .next (s, some w) => runEncoded w s
  | .fault r => .fault r
  | .refused r => .refused r

end Sys2Proof.Machine
end

