-- ==== Sys2Proof/Machine/Step.lean ====
section
/-!
DEFINITION. One step of the machine: the next agent's action (00_scope.md R7, "no two steps overlap"), and
how an instruction word is placed as the next action.
-/

namespace Sys2Proof.Machine

/-- One step (three outcomes).  With no action pending nothing happens: "a feed call that finds no byte
available simply does nothing that cycle" (20 R65). -/
def step (s : State) : Host.Outcome State Fault Refusal :=
  match s.pending with
  | [] => .next (s.startStep [])
  | a :: rest => afterFetch (fetch a (s.startStep rest))

/-- `s` with that instruction offered as the next action, and `paused` false so that it is taken (log 4,
log 5). -/
def State.withFetchWord (s : State) (nbits w : Nat) : State :=
  { s with paused := false, pending := actionOf (encodedOfTableWord nbits w) :: s.pending }

end Sys2Proof.Machine
end

