-- ==== Sys2Proof/Machine/Ports.lean ====
section
/-!
DEFINITION. The output ports of the binding of 70_reset_and_hazards.md R280, as a function of the state.
Its input side is the action `edge` (Machine/Fetch.lean).  A port that is "meaningful when" a condition
holds has no value otherwise.
-/

namespace Sys2Proof.Machine

/-- The output ports (70 R280).  The values of `ptX` and `ptY` are exact; a build shows numbers of its
`NUMFMT` within `TOL` of them (`Build.showsPoint`, log 15). -/
structure PinsOut where
  /-- 1 for one cycle, from one edge to the next. -/
  frameValid : Bool
  hasData : Bool
  snapQ : Option Byte
  cfgCoupling : Option (BitVec 2)
  cfgRange : Option (BitVec 2)
  cfgTrigger : Option (BitVec 3)
  cfgTbindex : Option (BitVec 4)
  ptValid : Bool
  ptX : Option Rat
  ptY : Option ExactNum
  /-- no port of R280: the whole sequence of the RECON just called, as a combinational build has it (43
  R221). -/
  points : List Point
deriving DecidableEq, Repr

/-- The points of a reply. -/
def pointsOf : Reply → List Point
  | .points ps => ps
  | .nothing | .coupling _ | .range _ | .trigger _ | .timebase _ _ | .config _ | .number _ | .positions _
  | .byte _ | .frame _ | .hasData _ => []

/-- A configuration port: "valid whenever `hasData` is true" (42 R186). -/
def cfgPort {w : Nat} (s : State) (v : BitVec w) : Option (BitVec w) := if s.hasData then some v else none

/-- The output ports in a state, with `snap_addr` driven (70 R280). -/
def portsOut (snapAddr : Byte) (s : State) : PinsOut where
  frameValid := s.ports.frameValid
  hasData := s.hasData
  snapQ := if s.hasData ∧ snapAddr.toNat < Config.frameLen then some (s.snap.read snapAddr.toNat) else none
  cfgCoupling := cfgPort s (couplingCode (couplingOf (s.snap.read 0)))
  cfgRange := cfgPort s (rangeCode (rangeOf (s.snap.read 0)))
  cfgTrigger := cfgPort s (triggerCode (triggerOf (s.snap.read 2)))
  cfgTbindex := cfgPort s (BitVec.ofNat 4 (timebaseIndexOf (s.snap.read 1)).val)
  ptValid := s.ports.point.isSome
  ptX := s.ports.point.map Point.x
  ptY := s.ports.point.map Point.y
  points := pointsOf s.out.reply

end Sys2Proof.Machine
end

