-- ==== Sys2Proof/Machine/RealValue.lean ====
section
/-!
DEFINITION. The real-valued reading of the filter: the kernels on every real offset as 40_filter_kernel.md
writes them, the weighted sum of 43_waveform_reconstructor.md R212 over every integer in the support, and
the real numbers that an exact number, a timebase entry and a tolerance stand for; and what a build with its
own `NUMFMT` and `TOL` computes.  Nothing the machine computes is defined from this file; statements compare
the two.
-/

namespace Sys2Proof.Machine

/-- `sinc(x) = 1` if `x = 0`, else `sin(π x) / (π x)` (40 R116). -/
noncomputable def realSinc (x : ℝ) : ℝ :=
  if x = 0 then 1 else Real.sin (Real.pi * x) / (Real.pi * x)

/-- `kernel_bspline3(t)` on the reals (40 R113). -/
noncomputable def realBspline3 (t : ℝ) : ℝ :=
  if |t| < 1 then 2 / 3 - |t| ^ 2 + |t| ^ 3 / 2
  else if |t| < 2 then (2 - |t|) ^ 3 / 6
  else 0

/-- `kernel_lanczos3(t)` on the reals (40 R115). -/
noncomputable def realLanczos3 (t : ℝ) : ℝ :=
  if |t| < 3 then realSinc |t| * realSinc (|t| / 3) else 0

/-- `kernel(t: real) -> real` of a family (40 R110, R111). -/
noncomputable def realKernel (k : KernelFamily) (t : ℝ) : ℝ :=
  match k with
  | .bspline3 => realBspline3 t
  | .lanczos3 => realLanczos3 t

/-- The sum of a list of terms, each `c * sinc a * sinc (a / 3)`. -/
noncomputable def termsToReal (ts : List (Rat × Rat)) : ℝ :=
  (ts.map fun t => (t.1 : ℝ) * (realSinc (t.2 : ℝ) * realSinc ((t.2 : ℝ) / 3))).sum

/-- The real number that an exact number stands for. -/
noncomputable def numToReal (v : ExactNum) : ℝ := (v.rat : ℝ) + termsToReal v.terms

/-- `amplitude(samples, i, O)` as 43 R212 writes it: over "every integer j with |p - j| < R_SUPPORT". -/
noncomputable def realAmplitude (k : KernelFamily) (samples : Nat → Byte) (i o : Int) : ℝ :=
  ∑ᶠ (j : ℤ) (_ : |(i : ℝ) / (o : ℝ) - (j : ℝ)| < (supportRadius k : ℝ)),
    realKernel k ((i : ℝ) / (o : ℝ) - (j : ℝ)) * ((samples (clamp j 0 127).toNat).toNat / 64 : ℝ)

/-! ### The open real parameters, and what a build's datapath computes -/

/-- The positive real number of seconds that a timebase entry stands for (42 R184, D15, log 10). -/
noncomputable def secondsToReal : Seconds → ℝ
  | .rational q => (q.val : ℝ)
  | .free k => Config.freeSeconds k

/-- The real number that a build's `TOL` stands for (40 R119, log 15). -/
noncomputable def toleranceToReal : Tolerance → ℝ
  | .rational q => (q.val : ℝ)
  | .free => Config.freeTolerance

end Sys2Proof.Machine

namespace Sys2Proof
open Sys2Proof.Machine

/-- The numbers that a number format has (40 R119, log 15). -/
def NumFormat.Holds (f : NumFormat) (x : ℝ) : Prop :=
  match f with
  | .exact => True
  | .float precision eMin eMax =>
      ∃ m e : Int, |m| < 2 ^ precision ∧ eMin ≤ e ∧ e ≤ eMax ∧ x = (m : ℝ) * (2 : ℝ) ^ e
  | .fixed width fraction =>
      ∃ m : Int, -(2 ^ width) ≤ 2 * m ∧ 2 * m < 2 ^ width ∧ x = (m : ℝ) / (2 : ℝ) ^ fraction

/-- What a build computes for an exact value: a number of its `NUMFMT` within its `TOL` (40 R119, 43 R222:
"departs from these laws only within its stated `TOL`"). -/
def Build.approximates (bd : Build) (computed exact : ℝ) : Prop :=
  bd.numFmt.Holds computed ∧ |computed - exact| ≤ toleranceToReal bd.tol

/-- A build's computed kernel: "every computed `kernel(t)` is within `TOL` of the exact value" (40 R119), and
zero at and above the support radius is exact (R118), and evenness is "bit for bit" where the absolute value is
exact, that is where the format has both `t` and `-t` (R112).  DESIGN CHOICE (log 15), safe: the rules bind at
the offsets that `NUMFMT` holds; at another, such as R120's 1/5 in a binary format, nothing is said of the
computed kernel. -/
def Build.computesKernel (bd : Build) (computed : ℝ → ℝ) : Prop :=
  ∀ t : ℝ, bd.numFmt.Holds t →
    bd.approximates (computed t) (realKernel bd.kernel t)
    ∧ ((supportRadius bd.kernel : ℝ) ≤ |t| → computed t = 0)
    ∧ (bd.numFmt.Holds (-t) → computed (-t) = computed t)

/-- A build's computed amplitude: the additions in any order within `TOL` (43 R213, R222). -/
def Build.computesAmplitude (bd : Build) (computed : (Nat → Byte) → Int → Int → ℝ) : Prop :=
  ∀ (samples : Nat → Byte) (i o : Int), 1 ≤ o →
    bd.approximates (computed samples i o) (realAmplitude bd.kernel samples i o)

/-- What a build shows at `pt_x` and `pt_y` for an exact point (43 R214, R215, R222, 70 R280). -/
def Build.showsPoint (bd : Build) (x y : ℝ) (p : Point) : Prop :=
  bd.approximates x (p.x : ℝ) ∧ bd.approximates y (numToReal p.y)

/-- What a build computes for `reconstruct`: one shown point for each exact one, in order (43 R210, R216,
R222). -/
def Build.computesPoints (bd : Build) (samples : Nat → Byte) (deltaX deltaY o : Int) (shown : List (ℝ × ℝ)) :
    Prop :=
  List.Forall₂ (fun xy p => bd.showsPoint xy.1 xy.2 p) shown (reconstruct bd samples deltaX deltaY o)

end Sys2Proof
end

