-- ==== Sys2Proof/Machine/ShiftRegister.lean ====
section
/-!
DEFINITION. The other build of the collection buffer that 10_state.md R25 allows: "a 137-stage byte shift
register that shifts on each stored byte".  The machine itself uses the indexed array; this one is here so
that a statement can say that "the two cannot be told apart through any interface of the unit".
-/

namespace Sys2Proof.Machine

/-- The synchronizer built with a shift register: stage 0 is "the stage holding the oldest byte". -/
structure ShiftSync where
  pos : Position
  stages : List Byte
  snap : Frame
  hasData : Bool
deriving DecidableEq, Repr

/-- One stored byte shifts every stage by one (10 R25). -/
def shiftIn (b : Byte) (stages : List Byte) : List Byte := stages.drop 1 ++ [b]

/-- `feed` of the shift-register build, with the frame it returns (41 R140, 10 R25). -/
def shiftFeed (b : Byte) (t : ShiftSync) : ShiftSync × Option Frame :=
  if isSync b then ({ t with pos := .collect 0 }, none)
  else match t.pos with
    | .seek => (t, none)
    | .collect c =>
        if c.val < 136 then ({ t with pos := positionAfter c, stages := shiftIn b t.stages }, none)
        else
          (⟨.seek, shiftIn b t.stages, shiftIn b t.stages, true⟩, some (shiftIn b t.stages))

/-- A sequence of bytes, with the frames returned, in order. -/
def shiftFeedAll : List Byte → ShiftSync → ShiftSync × List Frame
  | [], t => (t, [])
  | b :: bs, t =>
      ((shiftFeedAll bs (shiftFeed b t).1).1,
        (shiftFeed b t).2.toList ++ (shiftFeedAll bs (shiftFeed b t).1).2)

end Sys2Proof.Machine
end

