-- ==== Sys2Proof/Machine/Flags.lean ====
section
/-!
DEFINITION. The flags (00_scope.md R11: `collecting`, `hasData`) and the cursor, as the spec names them,
read from the position.
-/

namespace Sys2Proof.Machine

/-- `collecting`: "whether currently inside a frame" (10 R21). -/
def State.collecting (s : State) : Bool :=
  match s.pos with
  | .seek => false
  | .collect _ => true

/-- `cursor`: "the index into the in-progress frame buffer"; no value while `collecting` is false (10
R22). -/
def State.cursor (s : State) : Option (Fin 137) :=
  match s.pos with
  | .seek => none
  | .collect c => some c

/-- The standing condition `NoDataYet` (60 R246). -/
def State.noDataYet (s : State) : Bool := !s.hasData

end Sys2Proof.Machine
end

