-- ==== Sys2Proof/Safety.lean ====
section
/-!
DEFINITION. The terms in which statements speak of the machine: the invariants of the two byte spaces, the
frames a sequence of bytes produces, and which parts of two states agree.
-/

namespace Sys2Proof.Machine

/-- The step goes on. -/
def Completes (o : Host.Outcome State Fault Refusal) : Prop := ∃ t, o = .next t

/-- Both byte spaces keep their canonical form, addresses inside the space (20 R51). -/
def State.memoryCanonical (s : State) : Bool := s.buf.wf && s.snap.wf

/-- "`BUF` and `SNAP` can never contain a byte with `b & 0x5C == 0x5C`" (20 R63). -/
def State.holdsOnlyData (s : State) : Bool := s.buf.all (fun c => isData c.2) && s.snap.all (fun c => isData c.2)

/-- The five fields of the Synchronizer State agree (10 R20). -/
def State.sameSync (s t : State) : Prop :=
  t.pos = s.pos ∧ t.buf = s.buf ∧ t.snap = s.snap ∧ t.hasData = s.hasData

/-- The externally written cells, the static parameters and the pending actions agree (10 R28 to R30). -/
def State.sameInputs (s t : State) : Prop :=
  t.paused = s.paused ∧ t.deltaX = s.deltaX ∧ t.deltaY = s.deltaY ∧ t.build = s.build ∧ t.pending = s.pending

/-- The frames that feeding a sequence of bytes returns, in order (41 R149). -/
def framesOf (bs : List Byte) (s : State) : List Frame :=
  (feedAll bs { s with out := Output.empty }).out.frames

/-- The last 138 bytes of a sequence are one SYNC byte and the 137 DATA bytes `f` (41 R151). -/
def EndsWithFrame (bs : List Byte) (f : Frame) : Prop :=
  ∃ before m, bs = before ++ m :: f ∧ isSync m = true ∧ f.length = Config.frameLen ∧ f.all isData = true

/-- What decision D15 asks of a timebase table: positive entries, `TIMEBASE[9]` the slowest. -/
def timebaseTableOk (bd : Build) : Prop :=
  (∀ k, 0 < secondsToReal (timebaseSeconds bd k))
    ∧ ∀ k, secondsToReal (timebaseSeconds bd k) ≤ secondsToReal (timebaseSeconds bd 9)

/-- The action is a reset: the action `reset`, or an edge with `rst` high (70 R270, R272). -/
def Action.isReset : Action → Bool
  | .reset => true
  | .edge p => p.rst
  | .poll _ | .burst _ | .setPaused _ | .setDeltaX _ | .setDeltaY _ | .decodeField _ | .call _ | .readSnap _
  | .readFrame | .readHasData => false

/-- The action stops the run in no state: it is not one of the reader's that needs a frame (10 R33). -/
def Action.neverStops : Action → Bool
  | .poll _ | .burst _ | .edge _ | .setPaused _ | .setDeltaX _ | .setDeltaY _ | .readHasData | .reset => true
  | .decodeField _ | .call _ | .readSnap _ | .readFrame => false

end Sys2Proof.Machine
end

