-- ==== Sys2Proof/Certificates/Slice0/Obligations.lean ====
section
/-!
DEFINITION. The statements for the provers, family by family.  Each says in its docstring which rule of
spec/ it formalises; where a clause rests on a choice of the model, the docstring names the log entry.
-/

open Sys2Proof Sys2Proof.Machine

/-! ### The stream byte, and decode against encode -/

/-- 30 R80: a byte is `SYNC` if and only if bits 6, 4, 3 and 2 are 1, and `DATA` otherwise. -/
def Obligations.SyncClassTestsFourBits : Prop :=
  ∀ b : Byte,
    (isSync b = true ↔ b &&& 0x5C#8 = 0x5C#8)
    ∧ (isSync b = true ↔
        b.getLsbD 6 = true ∧ b.getLsbD 4 = true ∧ b.getLsbD 3 = true ∧ b.getLsbD 2 = true)
    ∧ (isData b = true ↔ isSync b = false)

/-- 30 R81: the 16 members of `SYNC`; `DATA` is the disjoint union of four patterns of 128, 64, 32 and 16
bytes. -/
def Obligations.SyncHasSixteenMembersDataFourPatterns : Prop :=
  (∀ b : Byte, isSync b = true ↔
    b.toNat ∈ [0x5C, 0x5D, 0x5E, 0x5F, 0x7C, 0x7D, 0x7E, 0x7F, 0xDC, 0xDD, 0xDE, 0xDF, 0xFC, 0xFD, 0xFE, 0xFF])
  ∧ (∀ b : Byte, isData b = true ↔
      ([(0x40#8, 0x00#8), (0x50#8, 0x40#8), (0x58#8, 0x50#8), (0x5C#8, 0x58#8)].filter
        fun (mask, value) => b &&& mask == value).length = 1)
  ∧ ([(0x40#8, 0x00#8), (0x50#8, 0x40#8), (0x58#8, 0x50#8), (0x5C#8, 0x58#8)].map
        fun (mask, value) =>
          ((List.range 256).filter fun n => BitVec.ofNat 8 n &&& mask == value).length) = [128, 64, 32, 16]

/-- Decode and encode agree: every well-formed instruction, at every value of its operands and in every
context in which the hardware chooses it for its word, is read back from its word (30 R80, R81, R86 to R89,
R97; the choice by position is 41 R140, by kernel family 40 R111). -/
def Obligations.DecodeReadsBackEveryEncoding : Prop :=
  ∀ (i : Instr) (ctx : DecodeContext), i.wellFormed = true → i.selectedIn ctx = true →
    decodeWord ctx (encode i) = .ok i

/-- The other direction, for the rows with a bit encoding: every stream byte at every position, and every
header byte for every field, decodes to an instruction whose word is that byte, which the context selects
and whose row of the opcode table accepts it. -/
def Obligations.EveryByteHasOneInstruction : Prop :=
  (∀ (ctx : DecodeContext) (b : Byte),
    encode (decodeStream ctx.pos b) = .stream b
    ∧ (decodeStream ctx.pos b).selectedIn ctx = true
    ∧ (decodeStream ctx.pos b).row.accepts b = true)
  ∧ ∀ (ctx : DecodeContext) (f : HeaderField) (b : Byte),
    encode (decodeHeader f b) = .header f b
    ∧ (decodeHeader f b).selectedIn ctx = true
    ∧ (decodeHeader f b).row.accepts b = true

/-- A few words written out from the encodings of the spec decode to the instructions they stand for.  A DATA
byte is STORE, COMPLETE or DROP by the position (41 R140).  The two clauses on `decodeTableWord` rest on the
model's choice that a table word, which comes without a position, is read in the context right after reset
(log 5): so 0xF2 is there DATA.DROP. -/
def Obligations.SampleWordsDecode : Prop :=
  decodeTableWord 8 0b01011100 = some (.sync 0 0 0)
  ∧ decodeStream (.collect 0) 0b00010010#8 = .dataStoreClear6 0 0b010010
  ∧ decodeStream (.collect 136) 0b11001101#8 = .dataCompleteClear4 1 0 0b1101
  ∧ decodeTableWord 8 0b11110010 = some (.dataDropClear3 1 1 0b010)
  ∧ decodeHeader .coupling 0b11100011#8 = .decodeCouplingDc 0b11 0b00 0b11
  ∧ decodeHeader .range 0b00101100#8 = .decodeRangeReserved 0b00 0b10 0b00
  ∧ decodeHeader .timebase 50#8 = .decodeTimebaseFallback32 0b10010
  ∧ decodeHeader .trigger 0b00011000#8 = .decodeTriggerPlusExternal 0 1 0

/-! ### The step -/

/-- A step runs the decoded instruction: a byte offered and not paused at the synchronizer's position, a
header field of the snapshot, a call, or a burst in the stream notation.  Around `exec` the step takes the
action off the queue and starts a new output (logs 4 and 7).  The fourth clause is the model's choice: that a
run of bytes is taken as one action and read as FRAME or NOISE is log 21, since "the unit has no chunk
operation" (41 R149). -/
def Obligations.StepRunsDecodedInstruction : Prop :=
  ∀ (s : State) (rest : List Action),
    (∀ b, s.pending = .poll (some b) :: rest → s.paused = false →
      step s = exec (decodeStream s.pos b) (s.startStep rest))
    ∧ (∀ f, s.pending = .decodeField f :: rest →
      step s = exec (decodeHeader f (s.snap.read (headerIndex f))) (s.startStep rest))
    ∧ (∀ c, s.pending = .call c :: rest →
      step s = exec (decodeCall s.build.kernel c) (s.startStep rest))
    ∧ (∀ bs i, s.pending = .burst bs :: rest → s.paused = false → decodeBurst s.pos bs = .ok i →
      step s = exec i (s.startStep rest))

/-- A table word placed by `withFetchWord` is the next instruction that runs, at whatever position and
with whatever else is pending.  No rule of the spec speaks of placing a word: that it is offered at the front
of the queue with `paused` set to false is the model's choice (log 4), that it is read as one byte or a run of
bytes is logs 5 and 21; a run that is neither FRAME nor NOISE is fed byte by byte
(`ChunkingDoesNotChangeFrames`). -/
def Obligations.PlacedTableWordRunsNext : Prop :=
  ∀ (s : State) (nbits w : Nat) (i : Instr),
    decodeWord s.decodeContext (encodedOfTableWord nbits w) = .ok i →
    step (s.withFetchWord nbits w) = exec i ((s.withFetchWord nbits w).startStep s.pending)

/-- 41 R147, R148, 20 R65: no byte offered, or a byte (or a burst) offered while `paused` is true: no
`feed` step; everything holds, and the byte is not remembered.  That a paused burst is lost whole is the
model's choice (log 21). -/
def Obligations.NoFeedWithoutByteOrWhilePaused : Prop :=
  ∀ (s : State) (rest : List Action),
    (s.pending = .poll none :: rest → step s = .next (s.startStep rest))
    ∧ (∀ b, s.pending = .poll (some b) :: rest → s.paused = true → step s = .next (s.startStep rest))
    ∧ (∀ bs, s.pending = .burst bs :: rest → s.paused = true → step s = .next (s.startStep rest))
    ∧ (s.pending = [] → step s = .next (s.startStep []))

/-- 70 R280: at a rising edge the byte is fed if and only if `rst == 0 and in_valid == 1 and paused == 0`;
`rst` resets; otherwise nothing is fed.  The input cells take the pins, the offsets sign-extended.  The port
registers are clocked: `frame_valid` is 1 exactly where the step taken is DATA.COMPLETE, and the first waiting
point leaves, or none does, as the free value says (log 22).  That the inputs are sampled while `rst` is high is
the model's choice (log 24), as is what a reset keeps (log 19) and that it leaves the waiting points (log 22). -/
def Obligations.EdgeFeedsExactlyWhenEnabled : Prop :=
  ∀ (s : State) (rest : List Action) (p : Pins), s.pending = .edge p :: rest →
    let s1 : State :=
      { s with
        pending := rest
        out := Output.empty
        paused := p.paused
        deltaX := (BitVec.ofNat s.build.deltaW p.deltaXBits).toInt
        deltaY := (BitVec.ofNat s.build.deltaW p.deltaYBits).toInt
        ports :=
          ⟨!p.rst && p.inValid && !p.paused && !isSync p.inByte && s.pos == .collect 136,
            if Config.pointLeaves s.ports.edges then s.ports.waiting.head? else none,
            if Config.pointLeaves s.ports.edges then s.ports.waiting.tail else s.ports.waiting,
            s.ports.edges + 1⟩ }
    step s =
      if p.rst = false ∧ p.inValid = true ∧ p.paused = false then .next (feed p.inByte s1)
      else if p.rst = true then .next { s1 with pos := .seek, hasData := false }
      else .next s1

/-- 10 R28, R29, 60 R252: the user-input agent writes `paused`, `deltaX` and `deltaY`, each at any value,
and nothing else of the machine. -/
def Obligations.UserInputWritesOnlyItsCells : Prop :=
  ∀ (s : State) (rest : List Action),
    (∀ v, s.pending = .setPaused v :: rest → step s = .next { s.startStep rest with paused := v })
    ∧ (∀ v, s.pending = .setDeltaX v :: rest → step s = .next { s.startStep rest with deltaX := v })
    ∧ (∀ v, s.pending = .setDeltaY v :: rest → step s = .next { s.startStep rest with deltaY := v })

/-- 70 R270, 10 R35: reset sets the position to `SEEK` and `hasData` to false, in the state right after
reset and when reset is applied to a running machine; the inputs, the static parameters and the port registers
stay (log 19). -/
def Obligations.ResetSetsSeekAndNoData : Prop :=
  (State.reset.collecting = false ∧ State.reset.hasData = false)
  ∧ ∀ (s : State) (rest : List Action), s.pending = .reset :: rest →
    ∃ t, step s = .next t ∧ t.collecting = false ∧ t.cursor = none ∧ t.hasData = false
      ∧ (s.startStep rest).sameInputs t ∧ t.ports = s.ports

/-! ### FEED: the instructions -/

/-- 41 R141: SYNC restarts collection at 0 at every position, raises `SyncStart` or `Resync(k)`, returns no
frame and writes nothing else; its free bits play no part. -/
def Obligations.SyncRestartsCollection : Prop :=
  ∀ (s : State) (a b : BitVec 1) (cc : BitVec 2),
    exec (.sync a b cc) s =
      .next
        { s with
          pos := .collect 0
          out := { s.out with
            events := s.out.events ++ [match s.pos with | .seek => .syncStart | .collect k => .resync k] } }

/-- 41 R142: each of the four DATA.STORE rows at `COLLECT(c)`, `c <= 135`: its byte goes to cell `c`, every
other cell reads as before, the position becomes `COLLECT(c + 1)`, `Store(c)` is raised, nothing else. -/
def Obligations.DataStoreWritesCellAndAdvances : Prop :=
  ∀ (s : State) (c : Fin 137) (hc : c.val < 136), s.memoryCanonical = true → s.pos = .collect c →
    let stores := fun (i : Instr) (b : Byte) =>
      ∃ t, exec i s = .next t
        ∧ t.pos = .collect ⟨c.val + 1, by omega⟩
        ∧ t.buf.read c.val = b ∧ (∀ k, k ≠ c.val → t.buf.read k = s.buf.read k)
        ∧ t.snap = s.snap ∧ t.hasData = s.hasData ∧ s.sameInputs t ∧ t.ports = s.ports
        ∧ t.out = { s.out with events := s.out.events ++ [.store c] }
    (∀ a b, stores (.dataStoreClear6 a b) (a ++ 0#1 ++ b))
    ∧ (∀ a b d, stores (.dataStoreClear4 a b d) (a ++ 1#1 ++ b ++ 0#1 ++ d))
    ∧ (∀ a b d, stores (.dataStoreClear3 a b d) (a ++ 1#1 ++ b ++ 2#2 ++ d))
    ∧ (∀ a b d, stores (.dataStoreClear2 a b d) (a ++ 1#1 ++ b ++ 6#3 ++ d))

/-- 41 R144: each of the four DATA.COMPLETE rows at `COLLECT(136)`: its byte goes to cell 136, the snapshot
becomes the buffer, `hasData` is set, the position becomes `SEEK`, the 137 bytes are returned, and
`FrameComplete` is raised, all in one step; nothing else. -/
def Obligations.DataCompleteHandsOverTheFrame : Prop :=
  ∀ (s : State), s.memoryCanonical = true → s.pos = .collect 136 →
    let completes := fun (i : Instr) (b : Byte) =>
      ∃ t f, exec i s = .next t
        ∧ t.pos = .seek ∧ t.hasData = true
        ∧ t.buf.read 136 = b ∧ (∀ k, k ≠ 136 → t.buf.read k = s.buf.read k)
        ∧ (∀ k, t.snap.read k = t.buf.read k)
        ∧ f.length = 137 ∧ (∀ k, k < 137 → f[k]? = some (t.snap.read k))
        ∧ s.sameInputs t ∧ t.ports = s.ports
        ∧ t.out = ⟨s.out.events ++ [.frameComplete], s.out.frames ++ [f], s.out.reply⟩
    (∀ a b, completes (.dataCompleteClear6 a b) (a ++ 0#1 ++ b))
    ∧ (∀ a b d, completes (.dataCompleteClear4 a b d) (a ++ 1#1 ++ b ++ 0#1 ++ d))
    ∧ (∀ a b d, completes (.dataCompleteClear3 a b d) (a ++ 1#1 ++ b ++ 2#2 ++ d))
    ∧ (∀ a b d, completes (.dataCompleteClear2 a b d) (a ++ 1#1 ++ b ++ 6#3 ++ d))

/-- 41 R143: each of the four DATA.DROP rows at `SEEK` changes nothing but the label `NoiseDrop(b)`. -/
def Obligations.DataDropChangesNothing : Prop :=
  ∀ (s : State), s.pos = .seek →
    let drops := fun (i : Instr) (b : Byte) =>
      exec i s = .next { s with out := { s.out with events := s.out.events ++ [.noiseDrop b] } }
    (∀ a b, drops (.dataDropClear6 a b) (a ++ 0#1 ++ b))
    ∧ (∀ a b d, drops (.dataDropClear4 a b d) (a ++ 1#1 ++ b ++ 0#1 ++ d))
    ∧ (∀ a b d, drops (.dataDropClear3 a b d) (a ++ 1#1 ++ b ++ 2#2 ++ d))
    ∧ (∀ a b d, drops (.dataDropClear2 a b d) (a ++ 1#1 ++ b ++ 6#3 ++ d))

/-- The model's choice (log 6): a DATA row at a position that is not its own feeds its byte all the same,
by the arm 41 R140 gives that position, so no DATA instruction stops anywhere. -/
def Obligations.DataRowsFeedAtEveryPosition : Prop :=
  ∀ (s : State) (i : Instr) (b : Byte), encode i = .stream b → exec i s = .next (feed b s)

/-- 41 R145: the transitions of the position, complete: the position after, the cells stored, and whether a
frame is returned, for every position and every class of byte; and the 138 positions. -/
def Obligations.TransitionsAreTheTable : Prop :=
  (∀ (s : State) (b : Byte), s.memoryCanonical = true →
    ∃ t, exec (decodeStream s.pos b) s = .next t ∧
      match s.pos, isSync b with
      | .seek, true =>
          t.pos = .collect 0 ∧ t.buf = s.buf ∧ t.snap = s.snap ∧ t.hasData = s.hasData
            ∧ t.out.frames = s.out.frames
      | .seek, false =>
          t.pos = .seek ∧ t.buf = s.buf ∧ t.snap = s.snap ∧ t.hasData = s.hasData
            ∧ t.out.frames = s.out.frames
      | .collect _, true =>
          t.pos = .collect 0 ∧ t.buf = s.buf ∧ t.snap = s.snap ∧ t.hasData = s.hasData
            ∧ t.out.frames = s.out.frames
      | .collect c, false =>
          t.buf.read c.val = b ∧ (∀ k, k ≠ c.val → t.buf.read k = s.buf.read k)
          ∧ if h : c.val < 136 then
              t.pos = .collect ⟨c.val + 1, by omega⟩ ∧ t.snap = s.snap ∧ t.hasData = s.hasData
                ∧ t.out.frames = s.out.frames
            else t.pos = .seek ∧ t.snap = t.buf ∧ t.hasData = true
                ∧ t.out.frames = s.out.frames ++ [t.snapFrame])
  ∧ ∃ ps : List Position, ps.length = 138 ∧ ps.Nodup ∧ ∀ p, p ∈ ps

/-- 60 R240, R248: every `feed` raises exactly one of the five labels. -/
def Obligations.EveryFeedRaisesOneEvent : Prop :=
  ∀ (s : State) (b : Byte), ∃ t e, exec (decodeStream s.pos b) s = .next t
    ∧ t.out.events = s.out.events ++ [e]
    ∧ (match e with
      | .noiseDrop b' => b' = b ∧ isSync b = false ∧ s.pos = .seek
      | .syncStart => isSync b = true ∧ s.pos = .seek
      | .resync k => isSync b = true ∧ s.pos = .collect k
      | .store c => isSync b = false ∧ s.pos = .collect c ∧ c.val < 136
      | .frameComplete => isSync b = false ∧ s.pos = .collect 136
      | .reservedHeaderCode _ => False)

/-! ### FEED: sequences of bytes -/

/-- 41 R149: the frames produced by a concatenation are the concatenation of the frames, the state
threaded through.  The second clause is the model's choice (log 21): a run of bytes taken as one action is its
bytes fed in order, in one step. -/
def Obligations.ChunkingDoesNotChangeFrames : Prop :=
  (∀ (s : State) (xs ys : List Byte), framesOf (xs ++ ys) s = framesOf xs s ++ framesOf ys (feedAll xs s))
  ∧ ∀ (s : State) (rest : List Action) (bs : List Byte), s.pending = .burst bs :: rest → s.paused = false →
    step s = .next (feedAll bs (s.startStep rest))

/-- 10 R23: after any bytes fed from `SEEK`, `COLLECT(c)` means that cells 0 to `c - 1` hold, in arrival
order, the `c` DATA bytes since the most recent marker. -/
def Obligations.BufferHoldsBytesSinceMarker : Prop :=
  ∀ (s : State) (bs : List Byte) (c : Fin 137), s.memoryCanonical = true → s.pos = .seek →
    (feedAll bs s).pos = .collect c →
    ∃ before m f, bs = before ++ m :: f ∧ isSync m = true ∧ f.all isData = true ∧ f.length = c.val
      ∧ ∀ k, k < c.val → f[k]? = some ((feedAll bs s).buf.read k)

/-- 41 R151: from `SEEK`, the step for the last byte returns a frame if and only if the last 138 bytes are
one SYNC byte and 137 DATA bytes, and the frame is those 137 bytes. -/
def Obligations.FrameIffMarkerAnd137DataBytes : Prop :=
  ∀ (s : State) (bs : List Byte) (b : Byte) (f : Frame), s.memoryCanonical = true → s.pos = .seek →
    ((feedAll (bs ++ [b]) s).out.frames = (feedAll bs s).out.frames ++ [f] ↔ EndsWithFrame (bs ++ [b]) f)

/-- 41 R152: from reset, a stream in which no marker is followed by 137 DATA bytes (one without a marker,
for instance) produces no frame, `hasData` stays false, and the reconstructor and the decoder are refused. -/
def Obligations.NoFrameWithoutMarkerAnd137DataBytes : Prop :=
  ∀ bs : List Byte,
    (¬ ∃ before m f after, bs = before ++ m :: (f ++ after) ∧ isSync m = true ∧ f.length = 137
        ∧ f.all isData = true) →
    framesOf bs State.reset = [] ∧ (feedAll bs State.reset).hasData = false
    ∧ (∀ o, exec (.recon o) (feedAll bs State.reset) = .refused .noFrameYet)
    ∧ exec .decode (feedAll bs State.reset) = .refused .noFrameYet

/-- 41 R153: at most one frame per 138 stream bytes; one marker followed by DATA bytes for ever produces
exactly one. -/
def Obligations.AtMostOneFramePer138Bytes : Prop :=
  (∀ (s : State) (bs : List Byte), s.pos = .seek → 138 * (framesOf bs s).length ≤ bs.length)
  ∧ ∀ (s : State) (m : Byte) (ds : List Byte), isSync m = true → ds.all isData = true → 137 ≤ ds.length →
    (framesOf (m :: ds) s).length = 1

/-- 10 R25: the indexed array and the 137-stage shift register "cannot be told apart": from `SEEK`, whatever
the buffer and the stages hold, every byte sequence gives the same frames, the same position, the same
`hasData` and, once a frame has completed, the same snapshot. -/
def Obligations.ShiftRegisterBuildIsIndistinguishable : Prop :=
  ∀ (s : State) (t : ShiftSync) (bs : List Byte), s.memoryCanonical = true → s.pos = .seek → t.pos = .seek →
    t.stages.length = 137 → t.hasData = s.hasData →
    framesOf bs s = (shiftFeedAll bs t).2
    ∧ (feedAll bs s).pos = (shiftFeedAll bs t).1.pos
    ∧ (feedAll bs s).hasData = (shiftFeedAll bs t).1.hasData
    ∧ (framesOf bs s ≠ [] → (feedAll bs s).snapFrame = (shiftFeedAll bs t).1.snap)

/-! ### FRAME and NOISE -/

/-- 30 R84, R97: a well-formed FRAME, from any position, completes exactly one frame, which is the 137 bytes
it names, and leaves the unit in `SEEK` with that snapshot; a FRAME of any bytes has the effect of its
expansion (log 21). -/
def Obligations.FrameNotationDeliversItsBytes : Prop :=
  ∀ (s : State) (h0 h1 h2 h3 : Byte) (samples trailer : List Byte),
    exec (.frame h0 h1 h2 h3 samples trailer) s
        = .next (feedAll (0x5C#8 :: h0 :: h1 :: h2 :: h3 :: (samples ++ trailer)) s)
    ∧ (s.memoryCanonical = true → (Instr.frame h0 h1 h2 h3 samples trailer).wellFormed = true →
      ∃ t, exec (.frame h0 h1 h2 h3 samples trailer) s = .next t
        ∧ t.out.frames = s.out.frames ++ [h0 :: h1 :: h2 :: h3 :: (samples ++ trailer)]
        ∧ t.snapFrame = h0 :: h1 :: h2 :: h3 :: (samples ++ trailer)
        ∧ t.buf = t.snap ∧ t.pos = .seek ∧ t.hasData = true ∧ s.sameInputs t
        ∧ t.ports = s.ports ∧ t.out.reply = s.out.reply)

/-- 30 R97, 41 R143: a well-formed NOISE at `SEEK` drops every byte and changes nothing but the labels; a
NOISE anywhere has the effect of its bytes (log 21). -/
def Obligations.NoiseAtSeekDropsEveryByte : Prop :=
  ∀ (s : State) (bytes : List Byte),
    exec (.noise bytes) s = .next (feedAll bytes s)
    ∧ (s.pos = .seek → (Instr.noise bytes).wellFormed = true →
      exec (.noise bytes) s =
        .next { s with out := { s.out with events := s.out.events ++ bytes.map Event.noiseDrop } })

/-! ### DECODE -/

/-- 42 R181: the four DECODE.COUPLING rows, whatever the other bits of `h0`; and for every header byte the
label of `h0[5:4]`, with the event on code 3. -/
def Obligations.CouplingRowsReplyTheirLabel : Prop :=
  ∀ (s : State), s.hasData = true →
    (∀ aa bb cc, exec (.decodeCouplingGnd aa bb cc) s
        = .next { s with out := { s.out with reply := .coupling .gnd } })
    ∧ (∀ aa bb cc, exec (.decodeCouplingAc aa bb cc) s
        = .next { s with out := { s.out with reply := .coupling .ac } })
    ∧ (∀ aa bb cc, exec (.decodeCouplingDc aa bb cc) s
        = .next { s with out := { s.out with reply := .coupling .dc } })
    ∧ (∀ aa bb cc, exec (.decodeCouplingReserved aa bb cc) s
        = .next { s with out :=
            ⟨s.out.events ++ [.reservedHeaderCode .coupling], s.out.frames, .coupling .reserved⟩ })
    ∧ ∀ h0 : Byte, ∃ c t, exec (decodeHeader .coupling h0) s = .next t ∧ t.out.reply = .coupling c
        ∧ (couplingCode c).toNat = h0.toNat / 16 % 4
        ∧ ["GND", "AC", "DC", "?"][h0.toNat / 16 % 4]? = some (couplingLabel c)

/-- 42 R182: the four DECODE.RANGE rows, whatever the other bits of `h0`; and for every header byte the
label of `h0[3:2]`, with the event on code 3. -/
def Obligations.RangeRowsReplyTheirLabel : Prop :=
  ∀ (s : State), s.hasData = true →
    (∀ aa bb cc, exec (.decodeRange1v aa bb cc) s
        = .next { s with out := { s.out with reply := .range .one } })
    ∧ (∀ aa bb cc, exec (.decodeRange10v aa bb cc) s
        = .next { s with out := { s.out with reply := .range .ten } })
    ∧ (∀ aa bb cc, exec (.decodeRange100v aa bb cc) s
        = .next { s with out := { s.out with reply := .range .hundred } })
    ∧ (∀ aa bb cc, exec (.decodeRangeReserved aa bb cc) s
        = .next { s with out :=
            ⟨s.out.events ++ [.reservedHeaderCode .range], s.out.frames, .range .reserved⟩ })
    ∧ ∀ h0 : Byte, ∃ r t, exec (decodeHeader .range h0) s = .next t ∧ t.out.reply = .range r
        ∧ (rangeCode r).toNat = h0.toNat / 4 % 4
        ∧ ["1", "10", "100", "?"][h0.toNat / 4 % 4]? = some (rangeLabel r)

/-- 42 R184: the ten DECODE.TIMEBASE rows and the six FALLBACK rows; for every header byte the entry of
index `min(h1, 9)`; entry 0 is 50e-9 seconds, and entry `k` from 1 to 9 is the build's own `TIMEBASE[k]`. -/
def Obligations.TimebaseRowsReplyTheirEntry : Prop :=
  ∀ (s : State), s.hasData = true →
    let replies := fun (i : Instr) (k : Fin 10) =>
      exec i s = .next { s with out := { s.out with reply := .timebase k (timebaseSeconds s.build k) } }
    (replies .decodeTimebase0 0 ∧ replies .decodeTimebase1 1 ∧ replies .decodeTimebase2 2
      ∧ replies .decodeTimebase3 3 ∧ replies .decodeTimebase4 4 ∧ replies .decodeTimebase5 5
      ∧ replies .decodeTimebase6 6 ∧ replies .decodeTimebase7 7 ∧ replies .decodeTimebase8 8
      ∧ replies .decodeTimebase9 9)
    ∧ ((∀ a, replies (.decodeTimebaseFallback10 a) 9) ∧ (∀ a, replies (.decodeTimebaseFallback12 a) 9)
      ∧ (∀ a, replies (.decodeTimebaseFallback16 a) 9) ∧ (∀ a, replies (.decodeTimebaseFallback32 a) 9)
      ∧ (∀ a, replies (.decodeTimebaseFallback64 a) 9) ∧ (∀ a, replies (.decodeTimebaseFallback128 a) 9))
    ∧ (∀ h1 : Byte, ∃ k : Fin 10, k.val = min h1.toNat 9 ∧ replies (decodeHeader .timebase h1) k)
    ∧ secondsToReal (timebaseSeconds s.build 0) = 50 / 10 ^ 9
    ∧ ∀ (k : Fin 10) (hk : 1 ≤ k.val), timebaseSeconds s.build k = s.build.openTimebase[k.val - 1]

/-- 42 R183: the five DECODE.TRIGGER rows; and for every header byte the first of bits 6, 5, 4, 3 that is
set decides, whatever the other bits. -/
def Obligations.TriggerRowsReplyByPriority : Prop :=
  ∀ (s : State), s.hasData = true →
    let replies := fun (i : Instr) (t : Trigger) =>
      exec i s = .next { s with out := { s.out with reply := .trigger t } }
    ((∀ a b c, replies (.decodeTriggerPlusInternal a b c) .plusInternal)
      ∧ (∀ a b c, replies (.decodeTriggerMinusInternal a b c) .minusInternal)
      ∧ (∀ a b c, replies (.decodeTriggerPlusExternal a b c) .plusExternal)
      ∧ (∀ a c, replies (.decodeTriggerMinusExternal a c) .minusExternal)
      ∧ (∀ a c, replies (.decodeTriggerAuto a c) .auto))
    ∧ ∀ h2 : Byte, ∃ t, replies (decodeHeader .trigger h2) t
        ∧ triggerLabel t =
          (if h2.toNat.testBit 6 then "+INTERNAL" else if h2.toNat.testBit 5 then "−INTERNAL"
           else if h2.toNat.testBit 4 then "+EXTERNAL" else if h2.toNat.testBit 3 then "−EXTERNAL"
           else "AUTO")

/-- 42 R180: DECODE returns the record of the four components of the snapshot's header, each the one that
its own row replies, and raises `ReservedHeaderCode` for each field whose code is 3.  That coupling's label comes
before range's where both are raised is the model's choice (log 26). -/
def Obligations.DecodeComposesTheFourFields : Prop :=
  ∀ (s : State), s.hasData = true →
    ∃ (t : State) (c : ConfigRecord), exec .decode s = .next t ∧ s.sameSync t ∧ s.sameInputs t
      ∧ t.ports = s.ports ∧ t.out.frames = s.out.frames ∧ t.out.reply = .config c
      ∧ t.out.events = s.out.events
          ++ (if c.coupling = .reserved then [.reservedHeaderCode .coupling] else [])
          ++ (if c.range = .reserved then [.reservedHeaderCode .range] else [])
      ∧ (∃ u, exec (decodeHeader .coupling (s.snap.read 0)) s = .next u ∧ u.out.reply = .coupling c.coupling)
      ∧ (∃ u, exec (decodeHeader .range (s.snap.read 0)) s = .next u ∧ u.out.reply = .range c.range)
      ∧ (∃ u, exec (decodeHeader .trigger (s.snap.read 2)) s = .next u ∧ u.out.reply = .trigger c.trigger)
      ∧ (∃ u, exec (decodeHeader .timebase (s.snap.read 1)) s = .next u
          ∧ u.out.reply = .timebase c.timebaseIndex c.timebase)

/-- 42 R185: "Two frames that agree in `h0[5:2]`, `h1` and `h2[6:3]` decode alike", on one build. -/
def Obligations.DecodeIgnoresUnassignedBits : Prop :=
  ∀ (s s' t t' : State), s.build = s'.build →
    (s.snap.read 0).extractLsb' 2 4 = (s'.snap.read 0).extractLsb' 2 4 →
    s.snap.read 1 = s'.snap.read 1 →
    (s.snap.read 2).extractLsb' 3 4 = (s'.snap.read 2).extractLsb' 3 4 →
    exec .decode s = .next t → exec .decode s' = .next t' → t.out.reply = t'.out.reply

/-- 10 R33, 70 R293: while `hasData` is false every reader of the snapshot is refused: the header rows,
DECODE, RECON, RECON.AMPLITUDE, and the caller's plain reads. -/
def Obligations.NoSnapshotReaderBeforeData : Prop :=
  ∀ (s : State), s.hasData = false →
    (∀ f b, exec (decodeHeader f b) s = .refused .noFrameYet)
    ∧ exec .decode s = .refused .noFrameYet
    ∧ (∀ o, exec (.recon o) s = .refused .noFrameYet)
    ∧ (∀ i o, exec (.reconAmplitude i o) s = .refused .noFrameYet)
    ∧ (∀ n rest, s.pending = .readSnap n :: rest → step s = .refused .noFrameYet)
    ∧ (∀ rest, s.pending = .readFrame :: rest → step s = .refused .noFrameYet)

/-- 20 R51, R55, R56, R59 (c): with `hasData` true the caller reads any of the 137 bytes, or all of them, and
changes nothing; 10 R27, 70 R274 (c): in every state it reads `hasData` itself, and changes nothing. -/
def Obligations.CallerReadsTheSnapshot : Prop :=
  ∀ (s : State) (rest : List Action),
    (s.hasData = true → ∀ n : Fin 137, s.pending = .readSnap n :: rest →
      step s = .next { s with pending := rest, out := ⟨[], [], .byte (s.snap.read n.val)⟩ })
    ∧ (s.hasData = true → s.pending = .readFrame :: rest →
      ∃ f, step s = .next { s with pending := rest, out := ⟨[], [], .frame f⟩ }
        ∧ f.length = 137 ∧ ∀ k, k < 137 → f[k]? = some (s.snap.read k))
    ∧ (s.pending = .readHasData :: rest →
      step s = .next { s with pending := rest, out := ⟨[], [], .hasData s.hasData⟩ })

/-! ### KERNEL -/

/-- 40 R113: KERNEL.BSPLINE3 replies the value of the two cubics, in every state. -/
def Obligations.BsplineRepliesTheCubics : Prop :=
  ∀ (s : State) (t : Rat),
    exec (.kernelBspline3 t) s =
      .next { s with out := ⟨s.out.events, s.out.frames,
        .number ⟨if |t| < 1 then 2 / 3 - |t| ^ 2 + |t| ^ 3 / 2 else if |t| < 2 then (2 - |t|) ^ 3 / 6 else 0, []⟩⟩ }

/-- 40 R115, R116: KERNEL.LANCZOS3 replies, in every state, an exact number whose real value is
`sinc(a) * sinc(a/3)` for `a = |t| < 3` and 0 from 3 on. -/
def Obligations.LanczosRepliesSincProduct : Prop :=
  ∀ (s : State) (t : Rat), ∃ v : ExactNum,
    exec (.kernelLanczos3 t) s = .next { s with out := { s.out with reply := .number v } }
    ∧ numToReal v =
      if |(t : ℝ)| < 3 then
        (if |(t : ℝ)| = 0 then 1 else Real.sin (Real.pi * |(t : ℝ)|) / (Real.pi * |(t : ℝ)|))
          * (if |(t : ℝ)| / 3 = 0 then 1
             else Real.sin (Real.pi * (|(t : ℝ)| / 3)) / (Real.pi * (|(t : ℝ)| / 3)))
      else 0

/-- 40 R111, R112, R118, R121: the radius is 2 for `BSPLINE3` and 3 for `LANCZOS3`; both families are even and
exactly zero at and above their radius, on every real offset, and in the exact answers of the machine, whose
offsets are rational (the model's choice, log 13).  In a build with a `NUMFMT` and a `TOL` (log 15) the computed
kernel is, at the offsets the format holds, within `TOL` of an even function, so even within twice its `TOL`,
even bit for bit where the format holds both offsets, and exactly zero from the radius on. -/
def Obligations.KernelsAreEvenWithCompactSupport : Prop :=
  (supportRadius .bspline3 = 2 ∧ supportRadius .lanczos3 = 3)
  ∧ (∀ (k : KernelFamily) (t : ℝ),
      realKernel k (-t) = realKernel k t ∧ ((supportRadius k : ℝ) ≤ |t| → realKernel k t = 0))
  ∧ (∀ (k : KernelFamily) (t : Rat),
      kernelAt k (-t) = kernelAt k t ∧ ((supportRadius k : Rat) ≤ |t| → kernelAt k t = ratNum 0))
  ∧ ∀ (bd : Build) (computed : ℝ → ℝ) (t : ℝ), bd.computesKernel computed → bd.numFmt.Holds t →
      bd.numFmt.Holds (-t) →
      |computed (-t) - computed t| ≤ 2 * toleranceToReal bd.tol ∧ computed (-t) = computed t
      ∧ ((supportRadius bd.kernel : ℝ) ≤ |t| → computed t = 0)

/-- 40 R111: the one `kernel` function is the active family's: called, it replies the active family's
weight, whose real value is the spec's real kernel of R110. -/
def Obligations.KernelCallIsTheActiveFamily : Prop :=
  ∀ (s : State) (rest : List Action) (t : Rat), s.pending = .call (.kernel t) :: rest →
    step s = .next { s with pending := rest, out := ⟨[], [], .number (kernelAt s.build.kernel t)⟩ }
    ∧ numToReal (kernelAt s.build.kernel t) = realKernel s.build.kernel (t : ℝ)

/-- 40 R114 (a), (c): for every real `x` the weights of `BSPLINE3` over all integer shifts sum to exactly
1, and each lies in `[0, 2/3]`. -/
def Obligations.BsplineIsPartitionOfUnity : Prop :=
  (∀ x : ℝ, ∑ᶠ j : ℤ, realBspline3 (x - (j : ℝ)) = 1) ∧ ∀ t : ℝ, 0 ≤ realBspline3 t ∧ realBspline3 t ≤ 2 / 3

/-- 40 R117 (a) to (e), on the reals. -/
def Obligations.LanczosInterpolatesAndIsBounded : Prop :=
  realLanczos3 0 = 1 ∧ (∀ n : ℤ, n ≠ 0 → realLanczos3 (n : ℝ) = 0)
  ∧ (∀ t : ℝ, realLanczos3 (-t) = realLanczos3 t) ∧ (∀ t : ℝ, 3 ≤ |t| → realLanczos3 t = 0)
  ∧ ∀ t : ℝ, |realLanczos3 t| ≤ 1

/-! ### RECON -/

/-- 43 R211, R216: RECON.POSITIONS replies the consecutive integers from `-O` to `I_END - 1`, in increasing
order: `130*O` of them at the spec's default `I_END`. -/
def Obligations.PositionsAreTheSpan : Prop :=
  ∀ (s : State) (o : Int), 1 ≤ o →
    ∃ ps : List Int,
      exec (.reconPositions o) s = .next { s with out := { s.out with reply := .positions ps } }
      ∧ ps.Pairwise (· < ·)
      ∧ (∀ i, i ∈ ps ↔ -o ≤ i ∧ i <
          match s.build.positionsEnd with
          | .halfOpen => 129 * o
          | .closed => 129 * o + 1
          | .counted => 130 * o
          | .fixed e => e)
      ∧ (s.build.positionsEnd = .halfOpen → (ps.length : Int) = 130 * o)

/-- 43 R212, R213, R218: RECON.AMPLITUDE replies an exact number whose real value is the weighted sum over
every integer within the support radius, the value clamped and the offset not. -/
def Obligations.AmplitudeIsTheWeightedSum : Prop :=
  ∀ (s : State) (i o : Int), s.hasData = true → 1 ≤ o →
    ∃ v : ExactNum,
      exec (.reconAmplitude i o) s = .next { s with out := { s.out with reply := .number v } }
      ∧ numToReal v =
        ∑ᶠ (j : ℤ) (_ : |(i : ℝ) / (o : ℝ) - (j : ℝ)| < (supportRadius s.build.kernel : ℝ)),
          realKernel s.build.kernel ((i : ℝ) / (o : ℝ) - (j : ℝ))
            * (((s.snap.read (s.build.sampleBase.val + (max 0 (min j 127)).toNat)).toNat : ℝ) / 64)

/-- 43 R214: RECON.XCOORD replies `(i + deltaX) / (O * 128)`, exact, unclamped, in every state. -/
def Obligations.XcoordIsExactQuotient : Prop :=
  ∀ (s : State) (i deltaX o : Int), 1 ≤ o →
    exec (.reconXcoord i deltaX o) s =
      .next { s with out := { s.out with reply := .number ⟨((i : Rat) + deltaX) / ((o : Rat) * 128), []⟩ } }

/-- 43 R215: RECON.YCOORD replies an exact number whose real value is `0.1 + 0.01 * deltaY + 0.8 * a`,
unclamped, in every state. -/
def Obligations.YcoordIsAffineInAmplitude : Prop :=
  ∀ (s : State) (a : ExactNum) (deltaY : Int), ∃ v : ExactNum,
    exec (.reconYcoord a deltaY) s = .next { s with out := { s.out with reply := .number v } }
    ∧ numToReal v = 1 / 10 + (deltaY : ℝ) * (1 / 100) + (9 / 10 - 1 / 10) * numToReal a

/-- 43 R210, R216: RECON replies one point per output position, in increasing position; point `k` is at
`i = -O + k` with the coordinates of R214 and R215 at the current offsets; `x` is strictly increasing.  The same
points wait, in that order, to leave at the ports (the model's choice, log 22); nothing else changes. -/
def Obligations.ReconEmitsOnePointPerPosition : Prop :=
  ∀ (s : State) (oversample : Option Int), s.hasData = true → 1 ≤ oversample.getD 5 →
    ∃ ps : List Point,
      exec (.recon oversample) s =
          .next { s with out := { s.out with reply := .points ps }, ports := { s.ports with waiting := ps } }
      ∧ ps.length = (positions s.build.positionsEnd (oversample.getD 5)).length
      ∧ (ps.map Point.x).Pairwise (· < ·)
      ∧ ∀ (k : Nat) (p : Point), ps[k]? = some p →
          p.x = xcoord (-(oversample.getD 5) + (k : Int)) s.deltaX (oversample.getD 5)
          ∧ ∃ a, exec (.reconAmplitude (-(oversample.getD 5) + (k : Int)) (oversample.getD 5)) s
                = .next { s with out := { s.out with reply := .number a } }
              ∧ p.y = ycoord a s.deltaY

/-- 43 R219: a constant input is reproduced exactly, for every `O`: with `BSPLINE3` at every position, with
`LANCZOS3` at every position whose `p = i / O` is an integer; in a build with a `NUMFMT` and a `TOL` (log 15) the
computed amplitude is there within `TOL`. -/
def Obligations.ConstantInputIsReproduced : Prop :=
  ∀ (s : State) (v : Byte) (i o : Int), s.hasData = true → 1 ≤ o → (s.build.kernel = .bspline3 ∨ o ∣ i) →
    (∀ n, n < 128 → s.snap.read (s.build.sampleBase.val + n) = v) →
    exec (.reconAmplitude i o) s =
      .next { s with out := { s.out with reply := .number ⟨(v.toNat : Rat) / 64, []⟩ } }
    ∧ ∀ computed : (Nat → Byte) → Int → Int → ℝ, s.build.computesAmplitude computed →
        |computed s.sample i o - (v.toNat : ℝ) / 64| ≤ toleranceToReal s.build.tol

/-- 43 R218 for `BSPLINE3`: at `p <= -1` the amplitude is exactly `s0/64`, at `p >= 128` exactly
`s127/64`. -/
def Obligations.AmplitudeBeyondTheEdgesIsTheEdgeSample : Prop :=
  ∀ (s : State) (i o : Int), s.hasData = true → s.build.kernel = .bspline3 → 1 ≤ o →
    (i ≤ -o → exec (.reconAmplitude i o) s =
      .next { s with out := { s.out with reply := .number ⟨((s.sample 0).toNat : Rat) / 64, []⟩ } })
    ∧ (128 * o ≤ i → exec (.reconAmplitude i o) s =
      .next { s with out := { s.out with reply := .number ⟨((s.sample 127).toNat : Rat) / 64, []⟩ } })

/-- 43 R220: against offsets of 0, `deltaX = dx` shifts every `x` by exactly `dx / (128 * O)` and
`deltaY = dy` every `y` by exactly `dy * 0.01`; with `dy = 0` no `y` changes, with `dx = 0` no `x`, and no
amplitude ever.  In a build with a `NUMFMT` and a `TOL` (log 15) the shown points shift so within twice its
`TOL`. -/
def Obligations.OffsetsShiftPointsLinearly : Prop :=
  ∀ (s : State) (oversample : Option Int) (dx dy : Int), s.hasData = true → 1 ≤ oversample.getD 5 →
    ∃ (t u : State) (ps qs : List Point),
      exec (.recon oversample) { s with deltaX := 0, deltaY := 0 } = .next t ∧ t.out.reply = .points ps
      ∧ exec (.recon oversample) { s with deltaX := dx, deltaY := dy } = .next u ∧ u.out.reply = .points qs
      ∧ ps.length = qs.length
      ∧ (∀ (k : Nat) (p q : Point), ps[k]? = some p → qs[k]? = some q →
          q.x = p.x + (dx : Rat) / (128 * (oversample.getD 5 : Rat))
          ∧ numToReal q.y = numToReal p.y + (dy : ℝ) * (1 / 100))
      ∧ (∀ (shown shown' : List (ℝ × ℝ)),
          s.build.computesPoints s.sample 0 0 (oversample.getD 5) shown →
          s.build.computesPoints s.sample dx dy (oversample.getD 5) shown' →
          ∀ (k : Nat) (a b : ℝ × ℝ), shown[k]? = some a → shown'[k]? = some b →
            |b.1 - (a.1 + (dx : ℝ) / (128 * (oversample.getD 5 : ℝ)))| ≤ 2 * toleranceToReal s.build.tol
            ∧ |b.2 - (a.2 + (dy : ℝ) * (1 / 100))| ≤ 2 * toleranceToReal s.build.tol)
      ∧ ∀ i : Int, ∃ (v w : State),
          exec (.reconAmplitude i (oversample.getD 5)) { s with deltaX := 0, deltaY := 0 } = .next v
          ∧ exec (.reconAmplitude i (oversample.getD 5)) { s with deltaX := dx, deltaY := dy } = .next w
          ∧ v.out.reply = w.out.reply

/-- U13 (decision D17): an oversample factor below 1 is refused by every RECON instruction that takes
one. -/
def Obligations.OversampleBelowOneIsRefused : Prop :=
  ∀ (s : State) (o : Int), o < 1 →
    exec (.reconPositions o) s = .refused .oversampleBelowOne
    ∧ (∀ i dx, exec (.reconXcoord i dx o) s = .refused .oversampleBelowOne)
    ∧ (s.hasData = true → exec (.recon (some o)) s = .refused .oversampleBelowOne)
    ∧ (s.hasData = true → ∀ i, exec (.reconAmplitude i o) s = .refused .oversampleBelowOne)

/-! ### The whole machine -/

/-- Every step keeps both byte spaces in their canonical form, with every address inside the space (20 R50,
R51). -/
def Obligations.StepKeepsMemoryCanonical : Prop :=
  ∀ s t : State, s.memoryCanonical = true → step s = .next t → t.memoryCanonical = true

/-- Right after reset both byte spaces are in canonical form and hold no byte of the SYNC class. -/
def Obligations.ResetMemoryIsCanonicalWithoutMarkers : Prop :=
  State.reset.memoryCanonical = true ∧ State.reset.holdsOnlyData = true

/-- 20 R63: "`BUF` and `SNAP` can never contain a byte with `b & 0x5C == 0x5C`": every step keeps it. -/
def Obligations.StepKeepsMarkersOutOfMemory : Prop :=
  ∀ s t : State, s.holdsOnlyData = true → step s = .next t → t.holdsOnlyData = true

/-- 10 R26, 20 R55: a step that returns no frame and is no reset leaves the snapshot alone (what a reset leaves
in it is unspecified, 70 R271), and a step that returns frames leaves in it the last of them, with `hasData`
true. -/
def Obligations.SnapshotChangesOnlyByCompletion : Prop :=
  ∀ s t : State, step s = .next t →
    ((∀ a rest, s.pending = a :: rest → a.isReset = false) → t.out.frames = [] → t.snap = s.snap)
    ∧ (t.out.frames ≠ [] → t.out.frames.getLast? = some t.snapFrame ∧ t.hasData = true)

/-- 10 R27, 70 R272: `hasData` is set by a completion and by nothing else, and cleared by reset alone. -/
def Obligations.HasDataFollowsCompletionAndReset : Prop :=
  ∀ s t : State, step s = .next t →
    (s.hasData = false → t.hasData = true → t.out.frames ≠ [])
    ∧ (s.hasData = true → t.hasData = false →
      ∃ rest, s.pending = .reset :: rest ∨ ∃ p, p.rst = true ∧ s.pending = .edge p :: rest)

/-- 10 R21, R28: `collecting` goes from true to false by a completion or by reset alone; `paused` in
particular never clears it. -/
def Obligations.CollectingEndsOnlyByCompletionOrReset : Prop :=
  ∀ s t : State, step s = .next t → s.collecting = true → t.collecting = false →
    t.out.frames ≠ [] ∨ ∃ rest, s.pending = .reset :: rest ∨ ∃ p, p.rst = true ∧ s.pending = .edge p :: rest

/-- 60 R240: no byte, no edge, no user input and no reset makes the machine stop, in any state. -/
def Obligations.NoInputStopsTheMachine : Prop :=
  ∀ s : State, (∀ a rest, s.pending = a :: rest → a.neverStops = true) → Completes (step s)

/-- 00 R7 (c), 20 R56: a reader's action writes none of the synchronizer's state and none of the inputs.  Of the
port registers only RECON writes one: the points that wait to leave (log 22). -/
def Obligations.ReadersWriteNothing : Prop :=
  ∀ (s t : State) (a : Action) (rest : List Action), s.pending = a :: rest →
    (a.neverStops = false ∨ a = .readHasData) → step s = .next t →
    s.sameSync t ∧ (s.startStep rest).sameInputs t ∧ t.out.frames = []
    ∧ (t.ports = s.ports
      ∨ ∃ o ps, a = .call (.recon o) ∧ t.out.reply = .points ps ∧ t.ports = { s.ports with waiting := ps })

/-- 10 R30, R31: no operation writes the static parameters. -/
def Obligations.BuildNeverChanges : Prop := ∀ s t : State, step s = .next t → t.build = s.build

/-- 42 R184, D15: in the build the model is about, every timebase entry is a positive real number and
`TIMEBASE[9]` is the slowest.  That the free values of the build are kept within these bounds by construction is
log 10. -/
def Obligations.ResetTimebaseMeetsItsConstraints : Prop := timebaseTableOk State.reset.build

/-- 70 R280, 42 R186, 30 R95: the output ports.  `has_data` is `hasData`; `frame_valid` is 1 from an edge whose
step completed a frame until the next edge; the point ports show the port register that an edge writes
(`EdgeFeedsExactlyWhenEnabled`); no action between two edges changes `frame_valid` or a point port.  `snap_q` and the codes
of the snapshot's header have a value whenever `has_data`, `snap_q` up to index 136, and none before.  That only
an edge moves the port registers is log 25. -/
def Obligations.PortsShowTheSnapshotCodes : Prop :=
  ∀ (s : State) (addr : Byte),
    ((portsOut addr s).hasData = s.hasData
      ∧ (portsOut addr s).points = pointsOf s.out.reply
      ∧ (portsOut addr s).ptValid = s.ports.point.isSome
      ∧ (portsOut addr s).ptX = s.ports.point.map Point.x
      ∧ (portsOut addr s).ptY = s.ports.point.map Point.y)
    ∧ (∀ (p : Pins) (rest : List Action), s.pending = .edge p :: rest →
        ∃ t, step s = .next t ∧ ((portsOut addr t).frameValid = true ↔ t.out.frames ≠ []))
    ∧ (∀ t : State, (∀ p rest, s.pending ≠ .edge p :: rest) → step s = .next t →
        (portsOut addr t).frameValid = (portsOut addr s).frameValid
        ∧ (portsOut addr t).ptValid = (portsOut addr s).ptValid
        ∧ (portsOut addr t).ptX = (portsOut addr s).ptX ∧ (portsOut addr t).ptY = (portsOut addr s).ptY)
    ∧ (s.hasData = false →
        (portsOut addr s).snapQ = none ∧ (portsOut addr s).cfgCoupling = none ∧ (portsOut addr s).cfgRange = none
        ∧ (portsOut addr s).cfgTrigger = none ∧ (portsOut addr s).cfgTbindex = none)
    ∧ (s.hasData = true →
      (portsOut addr s).snapQ = (if addr.toNat < 137 then some (s.snap.read addr.toNat) else none)
      ∧ (portsOut addr s).cfgCoupling = some ((s.snap.read 0).extractLsb' 4 2)
      ∧ (portsOut addr s).cfgRange = some ((s.snap.read 0).extractLsb' 2 2)
      ∧ (portsOut addr s).cfgTrigger =
          some (if (s.snap.read 2).toNat.testBit 6 then 1 else if (s.snap.read 2).toNat.testBit 5 then 2
            else if (s.snap.read 2).toNat.testBit 4 then 3 else if (s.snap.read 2).toNat.testBit 3 then 4
            else 0)
      ∧ (portsOut addr s).cfgTbindex = some (BitVec.ofNat 4 (min (s.snap.read 1).toNat 9)))
end

