-- ==== Sys2Proof/Laws/State.lean ====
section
/-! SUPPORT. What each update of the state does to each field: no later proof unfolds a record update. -/

namespace Sys2Proof.Machine

@[simp] theorem State.toPos_pos (p : Position) (s : State) : (s.toPos p).pos = p := rfl
@[simp] theorem State.toPos_buf (p : Position) (s : State) : (s.toPos p).buf = s.buf := rfl
@[simp] theorem State.toPos_snap (p : Position) (s : State) : (s.toPos p).snap = s.snap := rfl
@[simp] theorem State.toPos_hasData (p : Position) (s : State) : (s.toPos p).hasData = s.hasData := rfl
@[simp] theorem State.toPos_paused (p : Position) (s : State) : (s.toPos p).paused = s.paused := rfl
@[simp] theorem State.toPos_deltaX (p : Position) (s : State) : (s.toPos p).deltaX = s.deltaX := rfl
@[simp] theorem State.toPos_deltaY (p : Position) (s : State) : (s.toPos p).deltaY = s.deltaY := rfl
@[simp] theorem State.toPos_build (p : Position) (s : State) : (s.toPos p).build = s.build := rfl
@[simp] theorem State.toPos_ports (p : Position) (s : State) : (s.toPos p).ports = s.ports := rfl
@[simp] theorem State.toPos_pending (p : Position) (s : State) : (s.toPos p).pending = s.pending := rfl
@[simp] theorem State.toPos_out (p : Position) (s : State) : (s.toPos p).out = s.out := rfl

@[simp] theorem State.storeAt_pos (c : Nat) (b : Byte) (s : State) : (s.storeAt c b).pos = s.pos := rfl
@[simp] theorem State.storeAt_buf (c : Nat) (b : Byte) (s : State) : (s.storeAt c b).buf = s.buf.write c b := rfl
@[simp] theorem State.storeAt_snap (c : Nat) (b : Byte) (s : State) : (s.storeAt c b).snap = s.snap := rfl
@[simp] theorem State.storeAt_hasData (c : Nat) (b : Byte) (s : State) : (s.storeAt c b).hasData = s.hasData := rfl
@[simp] theorem State.storeAt_paused (c : Nat) (b : Byte) (s : State) : (s.storeAt c b).paused = s.paused := rfl
@[simp] theorem State.storeAt_deltaX (c : Nat) (b : Byte) (s : State) : (s.storeAt c b).deltaX = s.deltaX := rfl
@[simp] theorem State.storeAt_deltaY (c : Nat) (b : Byte) (s : State) : (s.storeAt c b).deltaY = s.deltaY := rfl
@[simp] theorem State.storeAt_build (c : Nat) (b : Byte) (s : State) : (s.storeAt c b).build = s.build := rfl
@[simp] theorem State.storeAt_ports (c : Nat) (b : Byte) (s : State) : (s.storeAt c b).ports = s.ports := rfl
@[simp] theorem State.storeAt_pending (c : Nat) (b : Byte) (s : State) : (s.storeAt c b).pending = s.pending := rfl
@[simp] theorem State.storeAt_out (c : Nat) (b : Byte) (s : State) : (s.storeAt c b).out = s.out := rfl

@[simp] theorem State.copyBufToSnap_pos (s : State) : s.copyBufToSnap.pos = s.pos := rfl
@[simp] theorem State.copyBufToSnap_buf (s : State) : s.copyBufToSnap.buf = s.buf := rfl
@[simp] theorem State.copyBufToSnap_snap (s : State) : s.copyBufToSnap.snap = s.buf := rfl
@[simp] theorem State.copyBufToSnap_hasData (s : State) : s.copyBufToSnap.hasData = s.hasData := rfl
@[simp] theorem State.copyBufToSnap_paused (s : State) : s.copyBufToSnap.paused = s.paused := rfl
@[simp] theorem State.copyBufToSnap_deltaX (s : State) : s.copyBufToSnap.deltaX = s.deltaX := rfl
@[simp] theorem State.copyBufToSnap_deltaY (s : State) : s.copyBufToSnap.deltaY = s.deltaY := rfl
@[simp] theorem State.copyBufToSnap_build (s : State) : s.copyBufToSnap.build = s.build := rfl
@[simp] theorem State.copyBufToSnap_ports (s : State) : s.copyBufToSnap.ports = s.ports := rfl
@[simp] theorem State.copyBufToSnap_pending (s : State) : s.copyBufToSnap.pending = s.pending := rfl
@[simp] theorem State.copyBufToSnap_out (s : State) : s.copyBufToSnap.out = s.out := rfl

@[simp] theorem State.markData_pos (s : State) : s.markData.pos = s.pos := rfl
@[simp] theorem State.markData_buf (s : State) : s.markData.buf = s.buf := rfl
@[simp] theorem State.markData_snap (s : State) : s.markData.snap = s.snap := rfl
@[simp] theorem State.markData_hasData (s : State) : s.markData.hasData = true := rfl
@[simp] theorem State.markData_paused (s : State) : s.markData.paused = s.paused := rfl
@[simp] theorem State.markData_deltaX (s : State) : s.markData.deltaX = s.deltaX := rfl
@[simp] theorem State.markData_deltaY (s : State) : s.markData.deltaY = s.deltaY := rfl
@[simp] theorem State.markData_build (s : State) : s.markData.build = s.build := rfl
@[simp] theorem State.markData_ports (s : State) : s.markData.ports = s.ports := rfl
@[simp] theorem State.markData_pending (s : State) : s.markData.pending = s.pending := rfl
@[simp] theorem State.markData_out (s : State) : s.markData.out = s.out := rfl

@[simp] theorem State.raise_pos (e : Event) (s : State) : (s.raise e).pos = s.pos := rfl
@[simp] theorem State.raise_buf (e : Event) (s : State) : (s.raise e).buf = s.buf := rfl
@[simp] theorem State.raise_snap (e : Event) (s : State) : (s.raise e).snap = s.snap := rfl
@[simp] theorem State.raise_hasData (e : Event) (s : State) : (s.raise e).hasData = s.hasData := rfl
@[simp] theorem State.raise_paused (e : Event) (s : State) : (s.raise e).paused = s.paused := rfl
@[simp] theorem State.raise_deltaX (e : Event) (s : State) : (s.raise e).deltaX = s.deltaX := rfl
@[simp] theorem State.raise_deltaY (e : Event) (s : State) : (s.raise e).deltaY = s.deltaY := rfl
@[simp] theorem State.raise_build (e : Event) (s : State) : (s.raise e).build = s.build := rfl
@[simp] theorem State.raise_ports (e : Event) (s : State) : (s.raise e).ports = s.ports := rfl
@[simp] theorem State.raise_pending (e : Event) (s : State) : (s.raise e).pending = s.pending := rfl
@[simp] theorem State.raise_out (e : Event) (s : State) : (s.raise e).out = { s.out with events := s.out.events ++ [e] } := rfl

@[simp] theorem State.answer_pos (r : Reply) (s : State) : (s.answer r).pos = s.pos := rfl
@[simp] theorem State.answer_buf (r : Reply) (s : State) : (s.answer r).buf = s.buf := rfl
@[simp] theorem State.answer_snap (r : Reply) (s : State) : (s.answer r).snap = s.snap := rfl
@[simp] theorem State.answer_hasData (r : Reply) (s : State) : (s.answer r).hasData = s.hasData := rfl
@[simp] theorem State.answer_paused (r : Reply) (s : State) : (s.answer r).paused = s.paused := rfl
@[simp] theorem State.answer_deltaX (r : Reply) (s : State) : (s.answer r).deltaX = s.deltaX := rfl
@[simp] theorem State.answer_deltaY (r : Reply) (s : State) : (s.answer r).deltaY = s.deltaY := rfl
@[simp] theorem State.answer_build (r : Reply) (s : State) : (s.answer r).build = s.build := rfl
@[simp] theorem State.answer_ports (r : Reply) (s : State) : (s.answer r).ports = s.ports := rfl
@[simp] theorem State.answer_pending (r : Reply) (s : State) : (s.answer r).pending = s.pending := rfl
@[simp] theorem State.answer_out (r : Reply) (s : State) : (s.answer r).out = { s.out with reply := r } := rfl

@[simp] theorem State.returnFrame_pos (s : State) : s.returnFrame.pos = s.pos := rfl
@[simp] theorem State.returnFrame_buf (s : State) : s.returnFrame.buf = s.buf := rfl
@[simp] theorem State.returnFrame_snap (s : State) : s.returnFrame.snap = s.snap := rfl
@[simp] theorem State.returnFrame_hasData (s : State) : s.returnFrame.hasData = s.hasData := rfl
@[simp] theorem State.returnFrame_paused (s : State) : s.returnFrame.paused = s.paused := rfl
@[simp] theorem State.returnFrame_deltaX (s : State) : s.returnFrame.deltaX = s.deltaX := rfl
@[simp] theorem State.returnFrame_deltaY (s : State) : s.returnFrame.deltaY = s.deltaY := rfl
@[simp] theorem State.returnFrame_build (s : State) : s.returnFrame.build = s.build := rfl
@[simp] theorem State.returnFrame_ports (s : State) : s.returnFrame.ports = s.ports := rfl
@[simp] theorem State.returnFrame_pending (s : State) : s.returnFrame.pending = s.pending := rfl
@[simp] theorem State.returnFrame_out (s : State) : s.returnFrame.out = { s.out with frames := s.out.frames ++ [s.snapFrame] } := rfl

@[simp] theorem State.applyReset_pos (s : State) : s.applyReset.pos = .seek := rfl
@[simp] theorem State.applyReset_buf (s : State) : s.applyReset.buf = s.buf := rfl
@[simp] theorem State.applyReset_snap (s : State) : s.applyReset.snap = s.snap := rfl
@[simp] theorem State.applyReset_hasData (s : State) : s.applyReset.hasData = false := rfl
@[simp] theorem State.applyReset_paused (s : State) : s.applyReset.paused = s.paused := rfl
@[simp] theorem State.applyReset_deltaX (s : State) : s.applyReset.deltaX = s.deltaX := rfl
@[simp] theorem State.applyReset_deltaY (s : State) : s.applyReset.deltaY = s.deltaY := rfl
@[simp] theorem State.applyReset_build (s : State) : s.applyReset.build = s.build := rfl
@[simp] theorem State.applyReset_ports (s : State) : s.applyReset.ports = s.ports := rfl
@[simp] theorem State.applyReset_pending (s : State) : s.applyReset.pending = s.pending := rfl
@[simp] theorem State.applyReset_out (s : State) : s.applyReset.out = s.out := rfl

@[simp] theorem State.startStep_pos (rest : List Action) (s : State) : (s.startStep rest).pos = s.pos := rfl
@[simp] theorem State.startStep_buf (rest : List Action) (s : State) : (s.startStep rest).buf = s.buf := rfl
@[simp] theorem State.startStep_snap (rest : List Action) (s : State) : (s.startStep rest).snap = s.snap := rfl
@[simp] theorem State.startStep_hasData (rest : List Action) (s : State) : (s.startStep rest).hasData = s.hasData := rfl
@[simp] theorem State.startStep_paused (rest : List Action) (s : State) : (s.startStep rest).paused = s.paused := rfl
@[simp] theorem State.startStep_deltaX (rest : List Action) (s : State) : (s.startStep rest).deltaX = s.deltaX := rfl
@[simp] theorem State.startStep_deltaY (rest : List Action) (s : State) : (s.startStep rest).deltaY = s.deltaY := rfl
@[simp] theorem State.startStep_build (rest : List Action) (s : State) : (s.startStep rest).build = s.build := rfl
@[simp] theorem State.startStep_ports (rest : List Action) (s : State) : (s.startStep rest).ports = s.ports := rfl
@[simp] theorem State.startStep_pending (rest : List Action) (s : State) : (s.startStep rest).pending = rest := rfl
@[simp] theorem State.startStep_out (rest : List Action) (s : State) : (s.startStep rest).out = Output.empty := rfl

@[simp] theorem State.samplePins_pos (p : Pins) (s : State) : (s.samplePins p).pos = s.pos := rfl
@[simp] theorem State.samplePins_buf (p : Pins) (s : State) : (s.samplePins p).buf = s.buf := rfl
@[simp] theorem State.samplePins_snap (p : Pins) (s : State) : (s.samplePins p).snap = s.snap := rfl
@[simp] theorem State.samplePins_hasData (p : Pins) (s : State) : (s.samplePins p).hasData = s.hasData := rfl
@[simp] theorem State.samplePins_paused (p : Pins) (s : State) : (s.samplePins p).paused = p.paused := rfl
@[simp] theorem State.samplePins_deltaX (p : Pins) (s : State) : (s.samplePins p).deltaX = offsetOfPins s.build.deltaW p.deltaXBits := rfl
@[simp] theorem State.samplePins_deltaY (p : Pins) (s : State) : (s.samplePins p).deltaY = offsetOfPins s.build.deltaW p.deltaYBits := rfl
@[simp] theorem State.samplePins_build (p : Pins) (s : State) : (s.samplePins p).build = s.build := rfl
@[simp] theorem State.samplePins_ports (p : Pins) (s : State) : (s.samplePins p).ports = s.ports := rfl
@[simp] theorem State.samplePins_pending (p : Pins) (s : State) : (s.samplePins p).pending = s.pending := rfl
@[simp] theorem State.samplePins_out (p : Pins) (s : State) : (s.samplePins p).out = s.out := rfl

@[simp] theorem State.emit_pos (ps : List Point) (s : State) : (s.emit ps).pos = s.pos := rfl
@[simp] theorem State.emit_buf (ps : List Point) (s : State) : (s.emit ps).buf = s.buf := rfl
@[simp] theorem State.emit_snap (ps : List Point) (s : State) : (s.emit ps).snap = s.snap := rfl
@[simp] theorem State.emit_hasData (ps : List Point) (s : State) : (s.emit ps).hasData = s.hasData := rfl
@[simp] theorem State.emit_paused (ps : List Point) (s : State) : (s.emit ps).paused = s.paused := rfl
@[simp] theorem State.emit_deltaX (ps : List Point) (s : State) : (s.emit ps).deltaX = s.deltaX := rfl
@[simp] theorem State.emit_deltaY (ps : List Point) (s : State) : (s.emit ps).deltaY = s.deltaY := rfl
@[simp] theorem State.emit_build (ps : List Point) (s : State) : (s.emit ps).build = s.build := rfl
@[simp] theorem State.emit_ports (ps : List Point) (s : State) : (s.emit ps).ports = { s.ports with waiting := ps } := rfl
@[simp] theorem State.emit_pending (ps : List Point) (s : State) : (s.emit ps).pending = s.pending := rfl
@[simp] theorem State.emit_out (ps : List Point) (s : State) : (s.emit ps).out = s.out := rfl

@[simp] theorem State.replyPoints_pos (ps : List Point) (s : State) : (s.replyPoints ps).pos = s.pos := rfl
@[simp] theorem State.replyPoints_buf (ps : List Point) (s : State) : (s.replyPoints ps).buf = s.buf := rfl
@[simp] theorem State.replyPoints_snap (ps : List Point) (s : State) : (s.replyPoints ps).snap = s.snap := rfl
@[simp] theorem State.replyPoints_hasData (ps : List Point) (s : State) : (s.replyPoints ps).hasData = s.hasData := rfl
@[simp] theorem State.replyPoints_paused (ps : List Point) (s : State) : (s.replyPoints ps).paused = s.paused := rfl
@[simp] theorem State.replyPoints_deltaX (ps : List Point) (s : State) : (s.replyPoints ps).deltaX = s.deltaX := rfl
@[simp] theorem State.replyPoints_deltaY (ps : List Point) (s : State) : (s.replyPoints ps).deltaY = s.deltaY := rfl
@[simp] theorem State.replyPoints_build (ps : List Point) (s : State) : (s.replyPoints ps).build = s.build := rfl
@[simp] theorem State.replyPoints_ports (ps : List Point) (s : State) : (s.replyPoints ps).ports = { s.ports with waiting := ps } := rfl
@[simp] theorem State.replyPoints_pending (ps : List Point) (s : State) : (s.replyPoints ps).pending = s.pending := rfl
@[simp] theorem State.replyPoints_out (ps : List Point) (s : State) : (s.replyPoints ps).out = { s.out with reply := .points ps } := rfl

@[simp] theorem State.clockPorts_pos (c : Bool) (s : State) : (s.clockPorts c).pos = s.pos := rfl
@[simp] theorem State.clockPorts_buf (c : Bool) (s : State) : (s.clockPorts c).buf = s.buf := rfl
@[simp] theorem State.clockPorts_snap (c : Bool) (s : State) : (s.clockPorts c).snap = s.snap := rfl
@[simp] theorem State.clockPorts_hasData (c : Bool) (s : State) : (s.clockPorts c).hasData = s.hasData := rfl
@[simp] theorem State.clockPorts_paused (c : Bool) (s : State) : (s.clockPorts c).paused = s.paused := rfl
@[simp] theorem State.clockPorts_deltaX (c : Bool) (s : State) : (s.clockPorts c).deltaX = s.deltaX := rfl
@[simp] theorem State.clockPorts_deltaY (c : Bool) (s : State) : (s.clockPorts c).deltaY = s.deltaY := rfl
@[simp] theorem State.clockPorts_build (c : Bool) (s : State) : (s.clockPorts c).build = s.build := rfl
@[simp] theorem State.clockPorts_ports (c : Bool) (s : State) : (s.clockPorts c).ports = s.ports.clock c := rfl
@[simp] theorem State.clockPorts_pending (c : Bool) (s : State) : (s.clockPorts c).pending = s.pending := rfl
@[simp] theorem State.clockPorts_out (c : Bool) (s : State) : (s.clockPorts c).out = s.out := rfl

@[simp] theorem State.atEdge_pos (p : Pins) (s : State) : (s.atEdge p).pos = s.pos := rfl
@[simp] theorem State.atEdge_buf (p : Pins) (s : State) : (s.atEdge p).buf = s.buf := rfl
@[simp] theorem State.atEdge_snap (p : Pins) (s : State) : (s.atEdge p).snap = s.snap := rfl
@[simp] theorem State.atEdge_hasData (p : Pins) (s : State) : (s.atEdge p).hasData = s.hasData := rfl
@[simp] theorem State.atEdge_paused (p : Pins) (s : State) : (s.atEdge p).paused = p.paused := rfl
@[simp] theorem State.atEdge_deltaX (p : Pins) (s : State) : (s.atEdge p).deltaX = offsetOfPins s.build.deltaW p.deltaXBits := rfl
@[simp] theorem State.atEdge_deltaY (p : Pins) (s : State) : (s.atEdge p).deltaY = offsetOfPins s.build.deltaW p.deltaYBits := rfl
@[simp] theorem State.atEdge_build (p : Pins) (s : State) : (s.atEdge p).build = s.build := rfl
@[simp] theorem State.atEdge_ports (p : Pins) (s : State) : (s.atEdge p).ports = s.ports.clock (p.takesByte && completesFrame s.pos p.inByte) := rfl
@[simp] theorem State.atEdge_pending (p : Pins) (s : State) : (s.atEdge p).pending = s.pending := rfl
@[simp] theorem State.atEdge_out (p : Pins) (s : State) : (s.atEdge p).out = s.out := rfl

/-- What an edge does to each port register. -/
@[simp] theorem PortRegs.clock_frameValid (c : Bool) (r : PortRegs) : (r.clock c).frameValid = c := by
  unfold PortRegs.clock; split <;> rfl
@[simp] theorem PortRegs.clock_edges (c : Bool) (r : PortRegs) : (r.clock c).edges = r.edges + 1 := by
  unfold PortRegs.clock; split <;> rfl

/-- At an edge either the first waiting point leaves, or no point does. -/
theorem PortRegs.clock_cases (c : Bool) (r : PortRegs) :
    r.clock c = ⟨c, r.waiting.head?, r.waiting.tail, r.edges + 1⟩ ∨ r.clock c = ⟨c, none, r.waiting, r.edges + 1⟩ := by
  unfold PortRegs.clock; split
  · exact .inl rfl
  · exact .inr rfl

@[simp] theorem State.withFetchWord_pos (s : State) (n w : Nat) : (s.withFetchWord n w).pos = s.pos := rfl
@[simp] theorem State.withFetchWord_paused (s : State) (n w : Nat) : (s.withFetchWord n w).paused = false := rfl
@[simp] theorem State.withFetchWord_pending (s : State) (n w : Nat) :
    (s.withFetchWord n w).pending = actionOf (encodedOfTableWord n w) :: s.pending := rfl

/-- `raiseIfReserved` is a label and nothing more (60 R240, R244). -/
theorem State.raiseIfReserved_out (f : HeaderField) (r : Bool) (s : State) :
    (s.raiseIfReserved f r).out
      = { s.out with events := s.out.events ++ (if r then [.reservedHeaderCode f] else []) } := by
  cases r <;> simp [State.raiseIfReserved]

@[simp] theorem State.raiseIfReserved_pos (f : HeaderField) (r : Bool) (s : State) :
    (s.raiseIfReserved f r).pos = s.pos := by cases r <;> rfl

@[simp] theorem State.raiseIfReserved_buf (f : HeaderField) (r : Bool) (s : State) :
    (s.raiseIfReserved f r).buf = s.buf := by cases r <;> rfl

@[simp] theorem State.raiseIfReserved_snap (f : HeaderField) (r : Bool) (s : State) :
    (s.raiseIfReserved f r).snap = s.snap := by cases r <;> rfl

@[simp] theorem State.raiseIfReserved_hasData (f : HeaderField) (r : Bool) (s : State) :
    (s.raiseIfReserved f r).hasData = s.hasData := by cases r <;> rfl

@[simp] theorem State.raiseIfReserved_paused (f : HeaderField) (r : Bool) (s : State) :
    (s.raiseIfReserved f r).paused = s.paused := by cases r <;> rfl

@[simp] theorem State.raiseIfReserved_deltaX (f : HeaderField) (r : Bool) (s : State) :
    (s.raiseIfReserved f r).deltaX = s.deltaX := by cases r <;> rfl

@[simp] theorem State.raiseIfReserved_deltaY (f : HeaderField) (r : Bool) (s : State) :
    (s.raiseIfReserved f r).deltaY = s.deltaY := by cases r <;> rfl

@[simp] theorem State.raiseIfReserved_build (f : HeaderField) (r : Bool) (s : State) :
    (s.raiseIfReserved f r).build = s.build := by cases r <;> rfl

@[simp] theorem State.raiseIfReserved_ports (f : HeaderField) (r : Bool) (s : State) :
    (s.raiseIfReserved f r).ports = s.ports := by cases r <;> rfl

@[simp] theorem State.raiseIfReserved_pending (f : HeaderField) (r : Bool) (s : State) :
    (s.raiseIfReserved f r).pending = s.pending := by cases r <;> rfl

end Sys2Proof.Machine
end

