-- ==== Sys2Proof/Laws/Memory.lean ====
section
/-! SUPPORT. The laws of one byte space: read after write, and that every operation keeps `Memory.wf`. -/

namespace Sys2Proof.Machine

theorem Memory.wfFrom_mono {lo lo' : Nat} (h : lo' ≤ lo) :
    ∀ {m : Memory}, Memory.wfFrom lo m = true → Memory.wfFrom lo' m = true
  | [], _ => rfl
  | (a, b) :: rest, hm => by
      simp only [Memory.wfFrom, Bool.and_eq_true, decide_eq_true_eq] at hm ⊢
      exact ⟨⟨⟨by omega, hm.1.1.2⟩, hm.1.2⟩, hm.2⟩

/-- An address below every listed one reads as the unlisted byte. -/
theorem Memory.read_below {m : Memory} : ∀ {lo a : Nat}, Memory.wfFrom lo m = true → a < lo →
    m.read a = Config.unwrittenByte := by
  induction m with
  | nil => intros; rfl
  | cons c rest ih =>
      obtain ⟨a', b⟩ := c
      intro lo a hm h
      simp only [Memory.wfFrom, Bool.and_eq_true, decide_eq_true_eq] at hm
      rw [Memory.read, if_neg (by omega)]
      exact ih hm.2 (by omega)

theorem Memory.consCell_wfFrom {lo a : Nat} {b : Byte} {m : Memory} (hlo : lo ≤ a) (ha : a < Config.frameLen)
    (hm : Memory.wfFrom (a + 1) m = true) : Memory.wfFrom lo (Memory.consCell a b m) = true := by
  unfold Memory.consCell
  split
  · exact Memory.wfFrom_mono (by omega) hm
  · rename_i h
    simp [Memory.wfFrom, hlo, ha, h, hm]

theorem Memory.write_wfFrom {m : Memory} : ∀ {lo a : Nat} {b : Byte}, Memory.wfFrom lo m = true → lo ≤ a →
    a < Config.frameLen → Memory.wfFrom lo (m.write a b) = true := by
  induction m with
  | nil => intro lo a b _ hlo ha; exact Memory.consCell_wfFrom hlo ha rfl
  | cons c rest ih =>
      obtain ⟨a', b'⟩ := c
      intro lo a b hm hlo ha
      have hm' := hm
      simp only [Memory.wfFrom, Bool.and_eq_true, decide_eq_true_eq] at hm
      unfold Memory.write
      split
      · rename_i hlt
        refine Memory.consCell_wfFrom hlo ha ?_
        simp only [Memory.wfFrom, Bool.and_eq_true, decide_eq_true_eq]
        exact ⟨⟨⟨by omega, hm.1.1.2⟩, hm.1.2⟩, hm.2⟩
      · split
        · rename_i hne heq
          subst heq
          exact Memory.consCell_wfFrom hlo ha hm.2
        · simp only [Memory.wfFrom, Bool.and_eq_true, decide_eq_true_eq]
          exact ⟨⟨⟨hm.1.1.1, hm.1.1.2⟩, hm.1.2⟩, ih hm.2 (by omega) ha⟩

/-- A write inside the space keeps the canonical form. -/
theorem Memory.write_wf {m : Memory} {a : Nat} {b : Byte} (hm : m.wf = true) (ha : a < Config.frameLen) :
    (m.write a b).wf = true :=
  Memory.write_wfFrom hm (Nat.zero_le a) ha

/-- A run of writes inside the space keeps the canonical form. -/
theorem Memory.writeBytes_wf {bs : List Byte} : ∀ {m : Memory} {a : Nat}, m.wf = true →
    a + bs.length ≤ Config.frameLen → (m.writeBytes a bs).wf = true := by
  induction bs with
  | nil => intro m a hm _; exact hm
  | cons b bs ih =>
      intro m a hm ha
      simp only [List.length_cons] at ha
      exact ih (Memory.write_wf hm (by omega)) (by omega)

theorem Memory.read_consCell_same {a : Nat} {b : Byte} {m : Memory}
    (hm : Memory.wfFrom (a + 1) m = true) : (Memory.consCell a b m).read a = b := by
  unfold Memory.consCell
  split
  · rename_i h
    rw [Memory.read_below hm (by omega), h]
  · simp [Memory.read]

theorem Memory.read_consCell_other {a a' : Nat} {b : Byte} {m : Memory} (h : a' ≠ a) :
    (Memory.consCell a b m).read a' = m.read a' := by
  unfold Memory.consCell
  split
  · rfl
  · simp [Memory.read, h]

theorem Memory.read_write_same_from {m : Memory} : ∀ {lo a : Nat} {b : Byte},
    Memory.wfFrom lo m = true → (m.write a b).read a = b := by
  induction m with
  | nil => intro lo a b _; exact Memory.read_consCell_same rfl
  | cons c rest ih =>
      obtain ⟨a', b'⟩ := c
      intro lo a b hm
      simp only [Memory.wfFrom, Bool.and_eq_true, decide_eq_true_eq] at hm
      unfold Memory.write
      split
      · rename_i hlt
        refine Memory.read_consCell_same ?_
        simp only [Memory.wfFrom, Bool.and_eq_true, decide_eq_true_eq]
        exact ⟨⟨⟨by omega, hm.1.1.2⟩, hm.1.2⟩, hm.2⟩
      · split
        · rename_i hne heq
          subst heq
          exact Memory.read_consCell_same hm.2
        · rename_i h1 h2
          rw [Memory.read, if_neg h2]
          exact ih hm.2

/-- A read after a write to the same index gives the byte written (20 R56). -/
theorem Memory.read_write_same {m : Memory} {a : Nat} {b : Byte} (hm : m.wf = true) :
    (m.write a b).read a = b :=
  Memory.read_write_same_from hm

/-- A write leaves every other index alone. -/
theorem Memory.read_write_other {m : Memory} {a a' : Nat} {b : Byte} (h : a' ≠ a) :
    (m.write a b).read a' = m.read a' := by
  induction m with
  | nil => exact Memory.read_consCell_other h
  | cons c rest ih =>
      obtain ⟨k, v⟩ := c
      unfold Memory.write
      split
      · exact Memory.read_consCell_other h
      · split
        · rename_i _ heq
          subst heq
          rw [Memory.read_consCell_other h, Memory.read, if_neg h]
        · simp only [Memory.read, ih]

/-- Equal contents are equal lists: two canonical spaces that read alike are equal. -/
theorem Memory.ext_from {m : Memory} : ∀ {m' : Memory} {lo : Nat}, Memory.wfFrom lo m = true →
    Memory.wfFrom lo m' = true → (∀ a, m.read a = m'.read a) → m = m' := by
  induction m with
  | nil =>
      intro m' lo _ hm' h
      cases m' with
      | nil => rfl
      | cons c rest =>
          obtain ⟨k, v⟩ := c
          simp only [Memory.wfFrom, Bool.and_eq_true, decide_eq_true_eq, bne_iff_ne] at hm'
          have := h k
          simp only [Memory.read, if_true] at this
          exact absurd this.symm hm'.1.2
  | cons c rest ih =>
      obtain ⟨k, v⟩ := c
      intro m' lo hm hm' h
      simp only [Memory.wfFrom, Bool.and_eq_true, decide_eq_true_eq, bne_iff_ne] at hm
      cases m' with
      | nil =>
          have := h k
          simp only [Memory.read, if_true] at this
          exact absurd this hm.1.2
      | cons c' rest' =>
          obtain ⟨k', v'⟩ := c'
          simp only [Memory.wfFrom, Bool.and_eq_true, decide_eq_true_eq, bne_iff_ne] at hm'
          have hk : k = k' := by
            rcases Nat.lt_trichotomy k k' with hlt | heq | hgt
            · have := h k
              rw [Memory.read, if_pos rfl, Memory.read, if_neg (by omega),
                Memory.read_below hm'.2 (by omega)] at this
              exact absurd this hm.1.2
            · exact heq
            · have := h k'
              rw [Memory.read, if_neg (by omega), Memory.read_below hm.2 (by omega), Memory.read,
                if_pos rfl] at this
              exact absurd this.symm hm'.1.2
          subst hk
          have hv : v = v' := by
            have := h k
            simpa [Memory.read] using this
          subst hv
          have : rest = rest' := by
            refine ih hm.2 hm'.2 fun a => ?_
            by_cases ha : a = k
            · subst ha
              rw [Memory.read_below hm.2 (by omega), Memory.read_below hm'.2 (by omega)]
            · have := h a
              simpa [Memory.read, ha] using this
          rw [this]

theorem Memory.ext_read {m m' : Memory} (hm : m.wf = true) (hm' : m'.wf = true)
    (h : ∀ a, m.read a = m'.read a) : m = m' :=
  Memory.ext_from hm hm' h

theorem Memory.readBytes_length (m : Memory) : ∀ (n a : Nat), (m.readBytes a n).length = n
  | 0, _ => rfl
  | n + 1, a => by simp [Memory.readBytes, Memory.readBytes_length m n (a + 1)]

theorem Memory.readBytes_getElem? (m : Memory) : ∀ (n a k : Nat), k < n →
    (m.readBytes a n)[k]? = some (m.read (a + k))
  | 0, _, _, h => by omega
  | n + 1, a, 0, _ => by simp [Memory.readBytes]
  | n + 1, a, k + 1, h => by
      simp only [Memory.readBytes, List.getElem?_cons_succ]
      rw [Memory.readBytes_getElem? m n (a + 1) k (by omega)]
      congr 2
      omega

/-- Every listed byte of a space after a write is one it held or the byte written. -/
theorem Memory.mem_write {m : Memory} {a : Nat} {b : Byte} {c : Host.Cell} (h : c ∈ m.write a b) :
    c ∈ m ∨ c = (a, b) := by
  induction m with
  | nil =>
      simp only [Memory.write, Memory.consCell] at h
      split at h <;> simp_all
  | cons d rest ih =>
      obtain ⟨k, v⟩ := d
      unfold Memory.write Memory.consCell at h
      split at h
      · split at h <;> simp_all
        tauto
      · split at h
        · split at h <;> simp_all
          tauto
        · simp only [List.mem_cons] at h ⊢
          rcases h with h | h
          · exact .inl (.inl h)
          · rcases ih h with h | h
            · exact .inl (.inr h)
            · exact .inr h

end Sys2Proof.Machine
end

