-- ==== Sys2Proof/Laws/Ops.lean ====
section
/-! SUPPORT. What each shared operation can do, said once. -/

namespace Sys2Proof.Machine

/-! ### The arms of `feed` -/

theorem feed_of_sync {b : Byte} (s : State) (h : isSync b = true) : feed b s = feedSync s := by
  simp [feed, h]

theorem feed_at_seek {b : Byte} {s : State} (h : isSync b = false) (hp : s.pos = .seek) :
    feed b s = dropByte b s := by
  simp [feed, h, hp]

theorem feed_at_collect {b : Byte} {s : State} {c : Fin 137} (h : isSync b = false) (hp : s.pos = .collect c)
    (hc : c.val < 136) : feed b s = storeByte b c s := by
  simp [feed, h, hp, hc]

theorem feed_at_last {b : Byte} {s : State} {c : Fin 137} (h : isSync b = false) (hp : s.pos = .collect c)
    (hc : ¬ c.val < 136) : feed b s = completeFrame b s := by
  simp [feed, h, hp, hc]

/-- One of the four arms, and which. -/
theorem feed_cases (b : Byte) (s : State) :
    (isSync b = true ∧ feed b s = feedSync s)
    ∨ (isSync b = false ∧ s.pos = .seek ∧ feed b s = dropByte b s)
    ∨ (∃ c, isSync b = false ∧ s.pos = .collect c ∧ c.val < 136 ∧ feed b s = storeByte b c s)
    ∨ (∃ c, isSync b = false ∧ s.pos = .collect c ∧ c.val = 136 ∧ feed b s = completeFrame b s) := by
  cases h : isSync b with
  | true => exact .inl ⟨rfl, feed_of_sync s h⟩
  | false =>
      cases hp : s.pos with
      | seek => exact .inr (.inl ⟨rfl, rfl, feed_at_seek h hp⟩)
      | collect c =>
          by_cases hc : c.val < 136
          · exact .inr (.inr (.inl ⟨c, rfl, rfl, hc, feed_at_collect h hp hc⟩))
          · exact .inr (.inr (.inr ⟨c, rfl, rfl, by omega, feed_at_last h hp hc⟩))

@[simp] theorem feedSync_pos (s : State) : (feedSync s).pos = .collect 0 := rfl
@[simp] theorem feedSync_buf (s : State) : (feedSync s).buf = s.buf := rfl
@[simp] theorem feedSync_snap (s : State) : (feedSync s).snap = s.snap := rfl
@[simp] theorem feedSync_hasData (s : State) : (feedSync s).hasData = s.hasData := rfl
@[simp] theorem feedSync_out (s : State) :
    (feedSync s).out = { s.out with events := s.out.events ++ [syncEvent s.pos] } := rfl

@[simp] theorem dropByte_pos (b : Byte) (s : State) : (dropByte b s).pos = s.pos := rfl
@[simp] theorem dropByte_buf (b : Byte) (s : State) : (dropByte b s).buf = s.buf := rfl
@[simp] theorem dropByte_snap (b : Byte) (s : State) : (dropByte b s).snap = s.snap := rfl
@[simp] theorem dropByte_hasData (b : Byte) (s : State) : (dropByte b s).hasData = s.hasData := rfl
@[simp] theorem dropByte_out (b : Byte) (s : State) :
    (dropByte b s).out = { s.out with events := s.out.events ++ [.noiseDrop b] } := rfl

@[simp] theorem storeByte_pos (b : Byte) (c : Fin 137) (s : State) :
    (storeByte b c s).pos = positionAfter c := rfl
@[simp] theorem storeByte_buf (b : Byte) (c : Fin 137) (s : State) :
    (storeByte b c s).buf = s.buf.write c.val b := rfl
@[simp] theorem storeByte_snap (b : Byte) (c : Fin 137) (s : State) : (storeByte b c s).snap = s.snap := rfl
@[simp] theorem storeByte_hasData (b : Byte) (c : Fin 137) (s : State) :
    (storeByte b c s).hasData = s.hasData := rfl
@[simp] theorem storeByte_out (b : Byte) (c : Fin 137) (s : State) :
    (storeByte b c s).out = { s.out with events := s.out.events ++ [.store c] } := rfl

@[simp] theorem completeFrame_pos (b : Byte) (s : State) : (completeFrame b s).pos = .seek := rfl
@[simp] theorem completeFrame_buf (b : Byte) (s : State) : (completeFrame b s).buf = s.buf.write 136 b := rfl
@[simp] theorem completeFrame_snap (b : Byte) (s : State) : (completeFrame b s).snap = s.buf.write 136 b := rfl
@[simp] theorem completeFrame_hasData (b : Byte) (s : State) : (completeFrame b s).hasData = true := rfl
@[simp] theorem completeFrame_out (b : Byte) (s : State) :
    (completeFrame b s).out =
      ⟨s.out.events ++ [.frameComplete], s.out.frames ++ [(s.buf.write 136 b).readBytes 0 Config.frameLen],
        s.out.reply⟩ := rfl

/-- `feed` writes none of the cells that other agents own (60 R252). -/
theorem feed_sameInputs (b : Byte) (s : State) : s.sameInputs (feed b s) := by
  rcases feed_cases b s with ⟨_, h⟩ | ⟨_, _, h⟩ | ⟨c, _, _, _, h⟩ | ⟨c, _, _, _, h⟩ <;> rw [h] <;>
    exact ⟨rfl, rfl, rfl, rfl, rfl⟩

/-- `feed` writes no port register: they move at an edge (70 R280). -/
@[simp] theorem feed_ports (b : Byte) (s : State) : (feed b s).ports = s.ports := by
  rcases feed_cases b s with ⟨_, h⟩ | ⟨_, _, h⟩ | ⟨c, _, _, _, h⟩ | ⟨c, _, _, _, h⟩ <;> rw [h] <;> rfl

@[simp] theorem feedAll_nil (s : State) : feedAll [] s = s := rfl
@[simp] theorem feedAll_cons (b : Byte) (bs : List Byte) (s : State) :
    feedAll (b :: bs) s = feedAll bs (feed b s) := rfl
theorem feedAll_append (bs cs : List Byte) (s : State) :
    feedAll (bs ++ cs) s = feedAll cs (feedAll bs s) := by
  simp [feedAll, List.foldl_append]

@[simp] theorem feedAll_ports (bs : List Byte) (s : State) : (feedAll bs s).ports = s.ports := by
  induction bs generalizing s with
  | nil => rfl
  | cons b bs ih => rw [feedAll_cons, ih, feed_ports]

/-- The next position inside the frame, and `SEEK` after the last (10 R22). -/
theorem positionAfter_of_lt {c : Fin 137} (h : c.val < 136) :
    positionAfter c = .collect ⟨c.val + 1, by omega⟩ := by
  simp only [positionAfter]
  rw [dif_pos (by omega)]

theorem positionAfter_last : positionAfter 136 = .seek := by decide

/-! ### The DATA patterns -/

theorem isSync_byteClear6 : ∀ a b, isSync (byteClear6 a b) = false := by decide
theorem isSync_byteClear4 : ∀ a b c, isSync (byteClear4 a b c) = false := by decide
theorem isSync_byteClear3 : ∀ a b c, isSync (byteClear3 a b c) = false := by decide
theorem isSync_byteClear2 : ∀ a b c, isSync (byteClear2 a b c) = false := by decide
theorem isSync_byteSync : ∀ a b cc, isSync (byteSync a b cc) = true := by decide

/-- A DATA row's meaning is `feed` of its byte, whatever the position (log 6). -/
theorem storeArm_eq_feed {b : Byte} (s : State) (h : isSync b = false) : storeArm b s = .next (feed b s) := by
  unfold storeArm
  split
  · rename_i c hp
    split
    · rename_i hc; rw [feed_at_collect h hp hc]
    · rfl
  · rfl

theorem completeArm_eq_feed {b : Byte} (s : State) (h : isSync b = false) :
    completeArm b s = .next (feed b s) := by
  unfold completeArm
  split
  · rename_i c hp
    split
    · rfl
    · rename_i hc; rw [feed_at_last h hp hc]
  · rfl

theorem dropArm_eq_feed {b : Byte} (s : State) (h : isSync b = false) : dropArm b s = .next (feed b s) := by
  unfold dropArm
  split
  · rfl
  · rename_i hp; rw [feed_at_seek h hp]

/-! ### The gates of the readers -/

theorem withFrame_of_data {s : State} (k : State → Host.Outcome State Fault Refusal)
    (h : s.hasData = true) : s.withFrame k = k s := by
  simp [State.withFrame, h]

theorem withFrame_of_no_data {s : State} (k : State → Host.Outcome State Fault Refusal)
    (h : s.hasData = false) : s.withFrame k = .refused .noFrameYet := by
  simp [State.withFrame, h]

/-- If a gated reader goes on, there was a frame, and what it answers is the reader's. -/
theorem withFrame_next {s t : State} {k : State → Host.Outcome State Fault Refusal}
    (h : s.withFrame k = .next t) : s.hasData = true ∧ k s = .next t := by
  unfold State.withFrame at h
  split at h
  · exact ⟨‹_›, h⟩
  · exact absurd h (by simp)

theorem withOversample_of_pos {o : Int} (r : Host.Outcome State Fault Refusal) (h : 1 ≤ o) :
    withOversample o r = r := by
  simp [withOversample, oversampleOk, h]

theorem withOversample_of_low {o : Int} (r : Host.Outcome State Fault Refusal) (h : o < 1) :
    withOversample o r = .refused .oversampleBelowOne := by
  simp [withOversample, oversampleOk, h]

theorem withOversample_next {o : Int} {t : State} {r : Host.Outcome State Fault Refusal}
    (h : withOversample o r = .next t) : 1 ≤ o ∧ r = .next t := by
  unfold withOversample oversampleOk at h
  split at h
  · rename_i ho; exact ⟨by simpa using ho, h⟩
  · exact absurd h (by simp)

/-! ### The step -/

/-- What an edge does before a byte is fed, and which byte it feeds: none in reset, none that is not taken. -/
theorem fetchEdge_cases (p : Pins) (s : State) :
    (p.rst = true ∧ fetchEdge p s = ((s.atEdge p).applyReset, none))
    ∨ (p.rst = false ∧ p.inValid = true ∧ p.paused = false ∧ fetchEdge p s = (s.atEdge p, some (.stream p.inByte)))
    ∨ (p.rst = false ∧ (p.inValid = false ∨ p.paused = true) ∧ fetchEdge p s = (s.atEdge p, none)) := by
  cases hr : p.rst <;> cases hv : p.inValid <;> cases hp : p.paused <;>
    simp [fetchEdge, Pins.takesByte, hr, hv, hp]

theorem step_idle {s : State} (h : s.pending = []) : step s = .next (s.startStep []) := by
  simp [step, h]

theorem step_action {s : State} {a : Action} {rest : List Action} (h : s.pending = a :: rest) :
    step s = afterFetch (fetch a (s.startStep rest)) := by
  simp [step, h]

/-- If a step goes on: no action was pending; or the action led to no instruction; or its instruction ran;
or a burst that no notation stands for was fed byte by byte. -/
theorem step_cases {s t : State} (h : step s = .next t) :
    (s.pending = [] ∧ t = s.startStep [])
    ∨ ∃ a rest, s.pending = a :: rest ∧
      (fetch a (s.startStep rest) = .next (t, none)
      ∨ (∃ s1 w i, fetch a (s.startStep rest) = .next (s1, some w) ∧ decodeWord s1.decodeContext w = .ok i
          ∧ exec i s1 = .next t)
      ∨ ∃ s1 w e, fetch a (s.startStep rest) = .next (s1, some w)
          ∧ decodeWord s1.decodeContext w = .error e ∧ t = feedAll (burstBytes w) s1) := by
  cases hp : s.pending with
  | nil => rw [step_idle hp] at h; cases h; exact .inl ⟨rfl, rfl⟩
  | cons a rest =>
      rw [step_action hp] at h
      refine .inr ⟨a, rest, rfl, ?_⟩
      match hf : fetch a (s.startStep rest) with
      | .next (s1, none) => rw [hf] at h; cases h; exact .inl rfl
      | .next (s1, some w) =>
          rw [hf] at h
          simp only [afterFetch, runEncoded] at h
          cases hd : decodeWord s1.decodeContext w with
          | ok i => rw [hd] at h; exact .inr (.inl ⟨s1, w, i, rfl, hd, h⟩)
          | error e => rw [hd] at h; cases h; exact .inr (.inr ⟨s1, w, e, rfl, hd, rfl⟩)
      | .fault r => rw [hf] at h; exact absurd h (by simp [afterFetch])
      | .refused r => rw [hf] at h; exact absurd h (by simp [afterFetch])

end Sys2Proof.Machine
end

