-- ==== Sys2Proof/Laws/Exec.lean ====
section
/-! SUPPORT. What `exec` is for each instruction, in terms of the shared operations, so that no later proof
unfolds the dispatch. -/

namespace Sys2Proof.Machine

theorem exec_sync (a b : BitVec 1) (cc : BitVec 2) (s : State) : exec (.sync a b cc) s = .next (feedSync s) := rfl
theorem exec_dataStoreClear6 (a : BitVec 1) (b : BitVec 6) (s : State) :
    exec (.dataStoreClear6 a b) s = storeArm (byteClear6 a b) s := rfl
theorem exec_dataStoreClear4 (a b : BitVec 1) (c : BitVec 4) (s : State) :
    exec (.dataStoreClear4 a b c) s = storeArm (byteClear4 a b c) s := rfl
theorem exec_dataStoreClear3 (a b : BitVec 1) (c : BitVec 3) (s : State) :
    exec (.dataStoreClear3 a b c) s = storeArm (byteClear3 a b c) s := rfl
theorem exec_dataStoreClear2 (a b : BitVec 1) (c : BitVec 2) (s : State) :
    exec (.dataStoreClear2 a b c) s = storeArm (byteClear2 a b c) s := rfl
theorem exec_dataCompleteClear6 (a : BitVec 1) (b : BitVec 6) (s : State) :
    exec (.dataCompleteClear6 a b) s = completeArm (byteClear6 a b) s := rfl
theorem exec_dataCompleteClear4 (a b : BitVec 1) (c : BitVec 4) (s : State) :
    exec (.dataCompleteClear4 a b c) s = completeArm (byteClear4 a b c) s := rfl
theorem exec_dataCompleteClear3 (a b : BitVec 1) (c : BitVec 3) (s : State) :
    exec (.dataCompleteClear3 a b c) s = completeArm (byteClear3 a b c) s := rfl
theorem exec_dataCompleteClear2 (a b : BitVec 1) (c : BitVec 2) (s : State) :
    exec (.dataCompleteClear2 a b c) s = completeArm (byteClear2 a b c) s := rfl
theorem exec_dataDropClear6 (a : BitVec 1) (b : BitVec 6) (s : State) :
    exec (.dataDropClear6 a b) s = dropArm (byteClear6 a b) s := rfl
theorem exec_dataDropClear4 (a b : BitVec 1) (c : BitVec 4) (s : State) :
    exec (.dataDropClear4 a b c) s = dropArm (byteClear4 a b c) s := rfl
theorem exec_dataDropClear3 (a b : BitVec 1) (c : BitVec 3) (s : State) :
    exec (.dataDropClear3 a b c) s = dropArm (byteClear3 a b c) s := rfl
theorem exec_dataDropClear2 (a b : BitVec 1) (c : BitVec 2) (s : State) :
    exec (.dataDropClear2 a b c) s = dropArm (byteClear2 a b c) s := rfl
theorem exec_decodeCouplingGnd (aa bb cc : BitVec 2) (s : State) :
    exec (.decodeCouplingGnd aa bb cc) s = replyCoupling .gnd s := rfl
theorem exec_decodeCouplingAc (aa bb cc : BitVec 2) (s : State) :
    exec (.decodeCouplingAc aa bb cc) s = replyCoupling .ac s := rfl
theorem exec_decodeCouplingDc (aa bb cc : BitVec 2) (s : State) :
    exec (.decodeCouplingDc aa bb cc) s = replyCoupling .dc s := rfl
theorem exec_decodeCouplingReserved (aa bb cc : BitVec 2) (s : State) :
    exec (.decodeCouplingReserved aa bb cc) s = replyCoupling .reserved s := rfl
theorem exec_decodeRange1v (aa bb cc : BitVec 2) (s : State) :
    exec (.decodeRange1v aa bb cc) s = replyRange .one s := rfl
theorem exec_decodeRange10v (aa bb cc : BitVec 2) (s : State) :
    exec (.decodeRange10v aa bb cc) s = replyRange .ten s := rfl
theorem exec_decodeRange100v (aa bb cc : BitVec 2) (s : State) :
    exec (.decodeRange100v aa bb cc) s = replyRange .hundred s := rfl
theorem exec_decodeRangeReserved (aa bb cc : BitVec 2) (s : State) :
    exec (.decodeRangeReserved aa bb cc) s = replyRange .reserved s := rfl
theorem exec_decodeTimebase0 (s : State) : exec .decodeTimebase0 s = replyTimebase 0 s := rfl
theorem exec_decodeTimebase1 (s : State) : exec .decodeTimebase1 s = replyTimebase 1 s := rfl
theorem exec_decodeTimebase2 (s : State) : exec .decodeTimebase2 s = replyTimebase 2 s := rfl
theorem exec_decodeTimebase3 (s : State) : exec .decodeTimebase3 s = replyTimebase 3 s := rfl
theorem exec_decodeTimebase4 (s : State) : exec .decodeTimebase4 s = replyTimebase 4 s := rfl
theorem exec_decodeTimebase5 (s : State) : exec .decodeTimebase5 s = replyTimebase 5 s := rfl
theorem exec_decodeTimebase6 (s : State) : exec .decodeTimebase6 s = replyTimebase 6 s := rfl
theorem exec_decodeTimebase7 (s : State) : exec .decodeTimebase7 s = replyTimebase 7 s := rfl
theorem exec_decodeTimebase8 (s : State) : exec .decodeTimebase8 s = replyTimebase 8 s := rfl
theorem exec_decodeTimebase9 (s : State) : exec .decodeTimebase9 s = replyTimebase 9 s := rfl
theorem exec_decodeTimebaseFallback10 (a : BitVec 1) (s : State) :
    exec (.decodeTimebaseFallback10 a) s = replyTimebase 9 s := rfl
theorem exec_decodeTimebaseFallback12 (aa : BitVec 2) (s : State) :
    exec (.decodeTimebaseFallback12 aa) s = replyTimebase 9 s := rfl
theorem exec_decodeTimebaseFallback16 (a : BitVec 4) (s : State) :
    exec (.decodeTimebaseFallback16 a) s = replyTimebase 9 s := rfl
theorem exec_decodeTimebaseFallback32 (a : BitVec 5) (s : State) :
    exec (.decodeTimebaseFallback32 a) s = replyTimebase 9 s := rfl
theorem exec_decodeTimebaseFallback64 (a : BitVec 6) (s : State) :
    exec (.decodeTimebaseFallback64 a) s = replyTimebase 9 s := rfl
theorem exec_decodeTimebaseFallback128 (a : BitVec 7) (s : State) :
    exec (.decodeTimebaseFallback128 a) s = replyTimebase 9 s := rfl
theorem exec_decodeTriggerPlusInternal (a : BitVec 1) (b c : BitVec 3) (s : State) :
    exec (.decodeTriggerPlusInternal a b c) s = replyTrigger .plusInternal s := rfl
theorem exec_decodeTriggerMinusInternal (a : BitVec 1) (b : BitVec 2) (c : BitVec 3) (s : State) :
    exec (.decodeTriggerMinusInternal a b c) s = replyTrigger .minusInternal s := rfl
theorem exec_decodeTriggerPlusExternal (a b : BitVec 1) (c : BitVec 3) (s : State) :
    exec (.decodeTriggerPlusExternal a b c) s = replyTrigger .plusExternal s := rfl
theorem exec_decodeTriggerMinusExternal (a : BitVec 1) (c : BitVec 3) (s : State) :
    exec (.decodeTriggerMinusExternal a c) s = replyTrigger .minusExternal s := rfl
theorem exec_decodeTriggerAuto (a : BitVec 1) (c : BitVec 3) (s : State) :
    exec (.decodeTriggerAuto a c) s = replyTrigger .auto s := rfl
theorem exec_kernelBspline3 (t : Rat) (s : State) :
    exec (.kernelBspline3 t) s = .next (s.answer (.number (ratNum (bspline3 t)))) := rfl
theorem exec_kernelLanczos3 (t : Rat) (s : State) :
    exec (.kernelLanczos3 t) s = .next (s.answer (.number (lanczos3 t))) := rfl
theorem exec_decode (s : State) : exec .decode s = execDecode s := rfl
theorem exec_recon (oversample : Option Int) (s : State) :
    exec (.recon oversample) s = execRecon oversample s := rfl
theorem exec_reconPositions (o : Int) (s : State) : exec (.reconPositions o) s = execReconPositions o s := rfl
theorem exec_reconAmplitude (i o : Int) (s : State) :
    exec (.reconAmplitude i o) s = execReconAmplitude i o s := rfl
theorem exec_reconXcoord (i deltaX o : Int) (s : State) :
    exec (.reconXcoord i deltaX o) s = execReconXcoord i deltaX o s := rfl
theorem exec_reconYcoord (a : ExactNum) (deltaY : Int) (s : State) :
    exec (.reconYcoord a deltaY) s = execReconYcoord a deltaY s := rfl
theorem exec_frame (h0 h1 h2 h3 : Byte) (samples trailer : List Byte) (s : State) :
    exec (.frame h0 h1 h2 h3 samples trailer) s = .next (feedAll (frameBytes h0 h1 h2 h3 samples trailer) s) := rfl
theorem exec_noise (bytes : List Byte) (s : State) : exec (.noise bytes) s = .next (feedAll bytes s) := rfl

end Sys2Proof.Machine
end

