-- ==== Sys2Proof/Laws/PerInstr.lean ====
section
/-!
SUPPORT. One lemma for each instruction: the encoder's word has the `format` of the instruction's row of
spec/opcode_table.json and passes the row's mask-and-match test.
-/

namespace Sys2Proof.Laws.Fits

/-- The word of an instruction passes the test of its row. -/
def Statement (i : Instr) : Prop := i.row.fits (encode i) = true

theorem sync : ∀ (a b : BitVec 1) (cc : BitVec 2), Statement (.sync a b cc) := by
  unfold Statement; decide
theorem dataStoreClear6 : ∀ (a : BitVec 1) (b : BitVec 6), Statement (.dataStoreClear6 a b) := by
  unfold Statement; decide
theorem dataStoreClear4 : ∀ (a b : BitVec 1) (c : BitVec 4), Statement (.dataStoreClear4 a b c) := by
  unfold Statement; decide
theorem dataStoreClear3 : ∀ (a b : BitVec 1) (c : BitVec 3), Statement (.dataStoreClear3 a b c) := by
  unfold Statement; decide
theorem dataStoreClear2 : ∀ (a b : BitVec 1) (c : BitVec 2), Statement (.dataStoreClear2 a b c) := by
  unfold Statement; decide
theorem dataCompleteClear6 : ∀ (a : BitVec 1) (b : BitVec 6), Statement (.dataCompleteClear6 a b) := by
  unfold Statement; decide
theorem dataCompleteClear4 : ∀ (a b : BitVec 1) (c : BitVec 4), Statement (.dataCompleteClear4 a b c) := by
  unfold Statement; decide
theorem dataCompleteClear3 : ∀ (a b : BitVec 1) (c : BitVec 3), Statement (.dataCompleteClear3 a b c) := by
  unfold Statement; decide
theorem dataCompleteClear2 : ∀ (a b : BitVec 1) (c : BitVec 2), Statement (.dataCompleteClear2 a b c) := by
  unfold Statement; decide
theorem dataDropClear6 : ∀ (a : BitVec 1) (b : BitVec 6), Statement (.dataDropClear6 a b) := by
  unfold Statement; decide
theorem dataDropClear4 : ∀ (a b : BitVec 1) (c : BitVec 4), Statement (.dataDropClear4 a b c) := by
  unfold Statement; decide
theorem dataDropClear3 : ∀ (a b : BitVec 1) (c : BitVec 3), Statement (.dataDropClear3 a b c) := by
  unfold Statement; decide
theorem dataDropClear2 : ∀ (a b : BitVec 1) (c : BitVec 2), Statement (.dataDropClear2 a b c) := by
  unfold Statement; decide
theorem decodeCouplingGnd : ∀ (aa bb cc : BitVec 2), Statement (.decodeCouplingGnd aa bb cc) := by
  unfold Statement; decide
theorem decodeCouplingAc : ∀ (aa bb cc : BitVec 2), Statement (.decodeCouplingAc aa bb cc) := by
  unfold Statement; decide
theorem decodeCouplingDc : ∀ (aa bb cc : BitVec 2), Statement (.decodeCouplingDc aa bb cc) := by
  unfold Statement; decide
theorem decodeCouplingReserved : ∀ (aa bb cc : BitVec 2), Statement (.decodeCouplingReserved aa bb cc) := by
  unfold Statement; decide
theorem decodeRange1v : ∀ (aa bb cc : BitVec 2), Statement (.decodeRange1v aa bb cc) := by
  unfold Statement; decide
theorem decodeRange10v : ∀ (aa bb cc : BitVec 2), Statement (.decodeRange10v aa bb cc) := by
  unfold Statement; decide
theorem decodeRange100v : ∀ (aa bb cc : BitVec 2), Statement (.decodeRange100v aa bb cc) := by
  unfold Statement; decide
theorem decodeRangeReserved : ∀ (aa bb cc : BitVec 2), Statement (.decodeRangeReserved aa bb cc) := by
  unfold Statement; decide
theorem decodeTimebase0 : Statement .decodeTimebase0 := by
  unfold Statement; decide
theorem decodeTimebase1 : Statement .decodeTimebase1 := by
  unfold Statement; decide
theorem decodeTimebase2 : Statement .decodeTimebase2 := by
  unfold Statement; decide
theorem decodeTimebase3 : Statement .decodeTimebase3 := by
  unfold Statement; decide
theorem decodeTimebase4 : Statement .decodeTimebase4 := by
  unfold Statement; decide
theorem decodeTimebase5 : Statement .decodeTimebase5 := by
  unfold Statement; decide
theorem decodeTimebase6 : Statement .decodeTimebase6 := by
  unfold Statement; decide
theorem decodeTimebase7 : Statement .decodeTimebase7 := by
  unfold Statement; decide
theorem decodeTimebase8 : Statement .decodeTimebase8 := by
  unfold Statement; decide
theorem decodeTimebase9 : Statement .decodeTimebase9 := by
  unfold Statement; decide
theorem decodeTimebaseFallback10 : ∀ (a : BitVec 1), Statement (.decodeTimebaseFallback10 a) := by
  unfold Statement; decide
theorem decodeTimebaseFallback12 : ∀ (aa : BitVec 2), Statement (.decodeTimebaseFallback12 aa) := by
  unfold Statement; decide
theorem decodeTimebaseFallback16 : ∀ (a : BitVec 4), Statement (.decodeTimebaseFallback16 a) := by
  unfold Statement; decide
theorem decodeTimebaseFallback32 : ∀ (a : BitVec 5), Statement (.decodeTimebaseFallback32 a) := by
  unfold Statement; decide
theorem decodeTimebaseFallback64 : ∀ (a : BitVec 6), Statement (.decodeTimebaseFallback64 a) := by
  unfold Statement; decide
theorem decodeTimebaseFallback128 : ∀ (a : BitVec 7), Statement (.decodeTimebaseFallback128 a) := by
  unfold Statement; decide
theorem decodeTriggerPlusInternal : ∀ (a : BitVec 1) (b c : BitVec 3), Statement (.decodeTriggerPlusInternal a b c) := by
  unfold Statement; decide
theorem decodeTriggerMinusInternal : ∀ (a : BitVec 1) (b : BitVec 2) (c : BitVec 3), Statement (.decodeTriggerMinusInternal a b c) := by
  unfold Statement; decide
theorem decodeTriggerPlusExternal : ∀ (a b : BitVec 1) (c : BitVec 3), Statement (.decodeTriggerPlusExternal a b c) := by
  unfold Statement; decide
theorem decodeTriggerMinusExternal : ∀ (a : BitVec 1) (c : BitVec 3), Statement (.decodeTriggerMinusExternal a c) := by
  unfold Statement; decide
theorem decodeTriggerAuto : ∀ (a : BitVec 1) (c : BitVec 3), Statement (.decodeTriggerAuto a c) := by
  unfold Statement; decide
theorem kernelBspline3 (t : Rat) : Statement (.kernelBspline3 t) := rfl
theorem kernelLanczos3 (t : Rat) : Statement (.kernelLanczos3 t) := rfl
theorem decode : Statement .decode := rfl
theorem recon (oversample : Option Int) : Statement (.recon oversample) := rfl
theorem reconPositions (o : Int) : Statement (.reconPositions o) := rfl
theorem reconAmplitude (i o : Int) : Statement (.reconAmplitude i o) := rfl
theorem reconXcoord (i deltaX o : Int) : Statement (.reconXcoord i deltaX o) := rfl
theorem reconYcoord (a : ExactNum) (deltaY : Int) : Statement (.reconYcoord a deltaY) := rfl
theorem frame (h0 h1 h2 h3 : Byte) (samples trailer : List Byte) : Statement (.frame h0 h1 h2 h3 samples trailer) := rfl
theorem noise (bytes : List Byte) : Statement (.noise bytes) := rfl

end Sys2Proof.Laws.Fits
end

