-- ==== Sys2Proof/Tests/Slice0.lean ====
section
/-!
SUPPORT. Tests: the refusals of WellFormed, one word written out from the spec's encoding for every
constructor, vectors of 95_test_vectors.md, and for every statement with hypotheses a state that meets them.
-/

namespace Sys2Proof.Tests
set_option Elab.async false
open Sys2Proof Sys2Proof.Machine

/-! ### WellFormed refuses (30 R97, U13, the form of an exact number) -/

theorem test_frame_refuses_a_marker_as_h0 :
    (Instr.frame 0x5C#8 0 0 0 (List.replicate 128 0) (List.replicate 5 0)).wellFormed = false := by decide +kernel
theorem test_frame_refuses_a_marker_as_h1 :
    (Instr.frame 0 0x7D#8 0 0 (List.replicate 128 0) (List.replicate 5 0)).wellFormed = false := by decide +kernel
theorem test_frame_refuses_a_marker_as_h2 :
    (Instr.frame 0 0 0xDC#8 0 (List.replicate 128 0) (List.replicate 5 0)).wellFormed = false := by decide +kernel
theorem test_frame_refuses_a_marker_as_h3 :
    (Instr.frame 0 0 0 0xFF#8 (List.replicate 128 0) (List.replicate 5 0)).wellFormed = false := by decide +kernel
theorem test_frame_refuses_127_samples :
    (Instr.frame 0 0 0 0 (List.replicate 127 0) (List.replicate 5 0)).wellFormed = false := by decide +kernel
theorem test_frame_refuses_a_marker_among_the_samples :
    (Instr.frame 0 0 0 0 (0x5F#8 :: List.replicate 127 0) (List.replicate 5 0)).wellFormed = false := by decide +kernel
theorem test_frame_refuses_6_trailer_bytes :
    (Instr.frame 0 0 0 0 (List.replicate 128 0) (List.replicate 6 0)).wellFormed = false := by decide +kernel
theorem test_frame_refuses_a_marker_in_the_trailer :
    (Instr.frame 0 0 0 0 (List.replicate 128 0) [0, 0, 0, 0, 0xFC#8]).wellFormed = false := by decide +kernel
theorem test_noise_refuses_a_marker : (Instr.noise [0x00#8, 0x5C#8]).wellFormed = false := by decide
theorem test_recon_refuses_oversample_0 : (Instr.recon (some 0)).wellFormed = false := by decide
theorem test_positions_refuse_oversample_0 : (Instr.reconPositions 0).wellFormed = false := by decide
theorem test_amplitude_refuses_oversample_0 : (Instr.reconAmplitude 3 0).wellFormed = false := by decide
theorem test_xcoord_refuses_oversample_minus_1 : (Instr.reconXcoord 3 0 (-1)).wellFormed = false := by decide
theorem test_ycoord_refuses_unsorted_terms :
    (Instr.reconYcoord ⟨0, [(1, 1 / 2), (1, 1 / 3)]⟩ 0).wellFormed = false := by decide +kernel
theorem test_ycoord_refuses_a_zero_coefficient :
    (Instr.reconYcoord ⟨0, [(0, 1 / 2)]⟩ 0).wellFormed = false := by decide +kernel
theorem test_ycoord_refuses_an_integer_offset :
    (Instr.reconYcoord ⟨0, [(1, 2)]⟩ 0).wellFormed = false := by decide +kernel
theorem test_ycoord_refuses_an_offset_past_3 :
    (Instr.reconYcoord ⟨0, [(1, 7 / 2)]⟩ 0).wellFormed = false := by decide +kernel

/-! ### Decode: a word of each row, bit by bit from 30 R80, R81, R86 to R89 and the table -/

theorem test_decode_sync : decodeStream .seek 0b11111110#8 = .sync 1 1 0b10 := by decide
theorem test_decode_dataStoreClear6 : decodeStream (.collect 0) 0b00010010#8 = .dataStoreClear6 0 0b010010 := by decide
theorem test_decode_dataStoreClear4 : decodeStream (.collect 1) 0b11101001#8 = .dataStoreClear4 1 1 0b1001 := by decide
theorem test_decode_dataStoreClear3 : decodeStream (.collect 70) 0b01010110#8 = .dataStoreClear3 0 0 0b110 := by decide
theorem test_decode_dataStoreClear2 : decodeStream (.collect 135) 0b11011001#8 = .dataStoreClear2 1 0 0b01 := by decide
theorem test_decode_dataCompleteClear6 : decodeStream (.collect 136) 0b10110100#8 = .dataCompleteClear6 1 0b110100 := by decide
theorem test_decode_dataCompleteClear4 : decodeStream (.collect 136) 0b11001101#8 = .dataCompleteClear4 1 0 0b1101 := by decide
theorem test_decode_dataCompleteClear3 : decodeStream (.collect 136) 0b01110011#8 = .dataCompleteClear3 0 1 0b011 := by decide
theorem test_decode_dataCompleteClear2 : decodeStream (.collect 136) 0b01011010#8 = .dataCompleteClear2 0 0 0b10 := by decide
theorem test_decode_dataDropClear6 : decodeStream .seek 0b10100011#8 = .dataDropClear6 1 0b100011 := by decide
theorem test_decode_dataDropClear4 : decodeStream .seek 0b01000001#8 = .dataDropClear4 0 0 0b0001 := by decide
theorem test_decode_dataDropClear3 : decodeStream .seek 0b11110010#8 = .dataDropClear3 1 1 0b010 := by decide
theorem test_decode_dataDropClear2 : decodeStream .seek 0b11111011#8 = .dataDropClear2 1 1 0b11 := by decide
theorem test_decode_couplingGnd : decodeHeader .coupling 0b11001001#8 = .decodeCouplingGnd 0b11 0b10 0b01 := by decide
theorem test_decode_couplingAc : decodeHeader .coupling 0b01010010#8 = .decodeCouplingAc 0b01 0b00 0b10 := by decide
theorem test_decode_couplingDc : decodeHeader .coupling 0b11100011#8 = .decodeCouplingDc 0b11 0b00 0b11 := by decide
theorem test_decode_couplingReserved : decodeHeader .coupling 0b00110100#8 = .decodeCouplingReserved 0b00 0b01 0b00 := by decide
theorem test_decode_range1v : decodeHeader .range 0b10010011#8 = .decodeRange1v 0b10 0b01 0b11 := by decide
theorem test_decode_range10v : decodeHeader .range 0b00010100#8 = .decodeRange10v 0b00 0b01 0b00 := by decide
theorem test_decode_range100v : decodeHeader .range 0b01101010#8 = .decodeRange100v 0b01 0b10 0b10 := by decide
theorem test_decode_rangeReserved : decodeHeader .range 0b00101100#8 = .decodeRangeReserved 0b00 0b10 0b00 := by decide
theorem test_decode_timebase0 : decodeHeader .timebase 0b00000000#8 = .decodeTimebase0 := by decide
theorem test_decode_timebase1 : decodeHeader .timebase 0b00000001#8 = .decodeTimebase1 := by decide
theorem test_decode_timebase2 : decodeHeader .timebase 0b00000010#8 = .decodeTimebase2 := by decide
theorem test_decode_timebase3 : decodeHeader .timebase 0b00000011#8 = .decodeTimebase3 := by decide
theorem test_decode_timebase4 : decodeHeader .timebase 0b00000100#8 = .decodeTimebase4 := by decide
theorem test_decode_timebase5 : decodeHeader .timebase 0b00000101#8 = .decodeTimebase5 := by decide
theorem test_decode_timebase6 : decodeHeader .timebase 0b00000110#8 = .decodeTimebase6 := by decide
theorem test_decode_timebase7 : decodeHeader .timebase 0b00000111#8 = .decodeTimebase7 := by decide
theorem test_decode_timebase8 : decodeHeader .timebase 0b00001000#8 = .decodeTimebase8 := by decide
theorem test_decode_timebase9 : decodeHeader .timebase 0b00001001#8 = .decodeTimebase9 := by decide
theorem test_decode_timebaseFallback10 : decodeHeader .timebase 0b00001011#8 = .decodeTimebaseFallback10 1 := by decide
theorem test_decode_timebaseFallback12 : decodeHeader .timebase 0b00001110#8 = .decodeTimebaseFallback12 0b10 := by decide
theorem test_decode_timebaseFallback16 : decodeHeader .timebase 0b00011001#8 = .decodeTimebaseFallback16 0b1001 := by decide
theorem test_decode_timebaseFallback32 : decodeHeader .timebase 0b00110010#8 = .decodeTimebaseFallback32 0b10010 := by decide
theorem test_decode_timebaseFallback64 : decodeHeader .timebase 0b01000101#8 = .decodeTimebaseFallback64 0b000101 := by decide
theorem test_decode_timebaseFallback128 : decodeHeader .timebase 0b11111011#8 = .decodeTimebaseFallback128 0b1111011 := by decide
theorem test_decode_plusInternal : decodeHeader .trigger 0b01001110#8 = .decodeTriggerPlusInternal 0 0b001 0b110 := by decide
theorem test_decode_minusInternal : decodeHeader .trigger 0b10111001#8 = .decodeTriggerMinusInternal 1 0b11 0b001 := by decide
theorem test_decode_plusExternal : decodeHeader .trigger 0b00011000#8 = .decodeTriggerPlusExternal 0 1 0b000 := by decide
theorem test_decode_minusExternal : decodeHeader .trigger 0b10001011#8 = .decodeTriggerMinusExternal 1 0b011 := by decide
theorem test_decode_auto : decodeHeader .trigger 0b10000111#8 = .decodeTriggerAuto 1 0b111 := by decide
theorem test_decode_kernelBspline3 (t : Rat) : decodeCall .bspline3 (.kernel t) = .kernelBspline3 t := rfl
theorem test_decode_kernelLanczos3 (t : Rat) : decodeCall .lanczos3 (.kernel t) = .kernelLanczos3 t := rfl
theorem test_decode_decode : decodeCall .bspline3 .decode = .decode := rfl
theorem test_decode_recon : decodeCall .lanczos3 (.recon (some 2)) = .recon (some 2) := rfl
theorem test_decode_positions : decodeCall .bspline3 (.positions 3) = .reconPositions 3 := rfl
theorem test_decode_amplitude : decodeCall .bspline3 (.amplitude (-5) 5) = .reconAmplitude (-5) 5 := rfl
theorem test_decode_xcoord : decodeCall .bspline3 (.xcoord 52 8 5) = .reconXcoord 52 8 5 := rfl
theorem test_decode_ycoord (a : ExactNum) : decodeCall .bspline3 (.ycoord a (-3)) = .reconYcoord a (-3) := rfl
/-- `[0x5C, 01, 02, 03, 04, 00 * 132, 77]`, stream byte 0 in bits 7..0. -/
theorem test_decode_frame :
    decodeTableWord 1104 (0x040302015C + 0x77 * 2 ^ 1096)
      = some (.frame 1 2 3 4 (List.replicate 128 0) [0, 0, 0, 0, 0x77#8]) := by decide +kernel
theorem test_decode_noise : decodeTableWord 16 0x4100 = some (.noise [0x00#8, 0x41#8]) := by decide
theorem test_decode_refuses_a_marker_and_noise : decodeTableWord 16 0x415C = none := by decide
theorem test_decode_tableWord_sync : decodeTableWord 8 0b01011100 = some (.sync 0 0 0) := by decide

/-! ### Vectors of 95_test_vectors.md -/

/-- A whole number of seconds, one second for 0. -/
def seconds (n : Nat) : Seconds := if h : 0 < (n : Rat) then .rational ⟨n, h⟩ else .rational ⟨1, by decide +kernel⟩

/-- A build with every parameter chosen. -/
def bspline : Build :=
  ⟨.bspline3, Vector.ofFn fun k => seconds (k.val + 1), 4, .halfOpen, 8, .exact, .rational ⟨0, by decide⟩⟩

/-- The same build with the other kernel. -/
def lanczos : Build := { bspline with kernel := .lanczos3 }

/-- A state at a position, with the header bytes and one sample (index 14 is sample 10) in the snapshot. -/
def stateAt (p : Position) (h0 h1 h2 : Byte) (bd : Build) : State :=
  ⟨p, [(0, 0x12#8)], (Memory.writeBytes [] 0 [h0, h1, h2]).write 14 0x40#8, true, false, 8, -3, bd,
    PortRegs.reset, [], Output.empty⟩

/-- The state that a step ends in, or `s` where it stops. -/
def after (s : State) : Host.Outcome State Fault Refusal → State
  | .next t => t
  | .fault _ => s
  | .refused _ => s

/-- The step goes on. -/
def goesOn : Host.Outcome State Fault Refusal → Bool
  | .next _ => true
  | .fault _ | .refused _ => false

/-- Why it was refused. -/
def refusal : Host.Outcome State Fault Refusal → Option Refusal
  | .refused r => some r
  | .next _ | .fault _ => none

theorem eq_next {o : Host.Outcome State Fault Refusal} (s : State) (h : goesOn o = true) : o = .next (after s o) := by
  cases o <;> simp_all [goesOn, after]

/-- The state after an instruction. -/
def run (i : Instr) (s : State) : State := after s (exec i s)

/-- The impulse of W4 with `BSPLINE3`. -/
def s0 : State := stateAt .seek 0 0 0 bspline

/-- F2, F14. -/
theorem test_sync_starts : (run (.sync 1 1 3) s0).pos = .collect 0 ∧ (run (.sync 1 1 3) s0).out.events = [.syncStart] := by decide +kernel
/-- F7: the marker wins at 136. -/
theorem test_sync_resyncs_at_136 :
    (run (.sync 1 0 0) (stateAt (.collect 136) 0 0 0 bspline)).pos = .collect 0
    ∧ (run (.sync 1 0 0) (stateAt (.collect 136) 0 0 0 bspline)).out = ⟨[.resync 136], [], .nothing⟩ := by decide +kernel
/-- F3, with pattern `a0bbbbbb`: 0x12. -/
theorem test_store_F3 :
    (run (.dataStoreClear6 0 0x12#6) { s0 with pos := .collect 0, buf := [] }).buf = [(0, 0x12#8)]
    ∧ (run (.dataStoreClear6 0 0x12#6) { s0 with pos := .collect 0 }).pos = .collect 1 := by decide +kernel
/-- F4 at the last storing position, pattern `a1b0cccc`: 0x41. -/
theorem test_store_at_135 :
    (run (.dataStoreClear4 0 0 1) { s0 with pos := .collect 135 }).buf = [(0, 0x12#8), (135, 0x41#8)]
    ∧ (run (.dataStoreClear4 0 0 1) { s0 with pos := .collect 135 }).pos = .collect 136 := by decide +kernel
/-- Patterns `a1b10ccc` (0xF2) and `a1b110cc` (0x5B). -/
theorem test_store_other_patterns :
    (run (.dataStoreClear3 1 1 2) { s0 with pos := .collect 7 }).buf.read 7 = 0xF2#8
    ∧ (run (.dataStoreClear2 0 0 3) { s0 with pos := .collect 7 }).buf.read 7 = 0x5B#8 := by decide +kernel
/-- F5: 0x16 completes; one frame of 137 bytes ends in it. -/
theorem test_complete_F5 :
    (run (.dataCompleteClear6 0 0x16#6) { s0 with pos := .collect 136 }).pos = .seek
    ∧ (run (.dataCompleteClear6 0 0x16#6) { s0 with pos := .collect 136 }).snap = [(0, 0x12#8), (136, 0x16#8)]
    ∧ (run (.dataCompleteClear6 0 0x16#6) { s0 with pos := .collect 136 }).out.frames
        = [0x12#8 :: (List.replicate 135 0 ++ [0x16#8])] := by decide +kernel
/-- The other three patterns complete too (0x41, 0x53, 0xDA). -/
theorem test_complete_other_patterns :
    (run (.dataCompleteClear4 0 0 1) { s0 with pos := .collect 136 }).snap.read 136 = 0x41#8
    ∧ (run (.dataCompleteClear3 0 0 3) { s0 with pos := .collect 136 }).snap.read 136 = 0x53#8
    ∧ (run (.dataCompleteClear2 1 0 2) { s0 with pos := .collect 136 }).snap.read 136 = 0xDA#8 := by decide +kernel
/-- F1, F9: dropped at SEEK, with a label. -/
theorem test_drop_F9 :
    (run (.dataDropClear6 0 0x11#6) s0).out.events = [.noiseDrop 0x11#8] ∧ (run (.dataDropClear6 0 0x11#6) s0).pos = .seek
    ∧ (run (.dataDropClear6 0 0x11#6) s0).snap = s0.snap := by decide +kernel
theorem test_drop_other_patterns :
    (run (.dataDropClear4 0 0 1) s0).out.events = [.noiseDrop 0x41#8]
    ∧ (run (.dataDropClear3 1 1 2) s0).out.events = [.noiseDrop 0xF2#8]
    ∧ (run (.dataDropClear2 1 1 3) s0).out.events = [.noiseDrop 0xFB#8] := by decide +kernel
/-- H1 to H3, H6. -/
theorem test_coupling_labels :
    (run (.decodeCouplingGnd 0 0 0) s0).out.reply = .coupling .gnd
    ∧ (run (.decodeCouplingAc 0 0 0) s0).out.reply = .coupling .ac
    ∧ (run (.decodeCouplingDc 3 0 3) s0).out.reply = .coupling .dc
    ∧ (run (.decodeCouplingReserved 0 0 0) s0).out = ⟨[.reservedHeaderCode .coupling], [], .coupling .reserved⟩ := by decide +kernel
/-- H1, H4, H5, H7. -/
theorem test_range_labels :
    (run (.decodeRange1v 0 0 0) s0).out.reply = .range .one
    ∧ (run (.decodeRange10v 0 0 0) s0).out.reply = .range .ten
    ∧ (run (.decodeRange100v 0 0 0) s0).out.reply = .range .hundred
    ∧ (run (.decodeRangeReserved 0 2 0) s0).out = ⟨[.reservedHeaderCode .range], [], .range .reserved⟩ := by decide +kernel
/-- H11, H14 and the entries between, in a build whose entry `k` is `k` seconds. -/
theorem test_timebase_entries :
    [Instr.decodeTimebase0, .decodeTimebase1, .decodeTimebase2, .decodeTimebase3, .decodeTimebase4, .decodeTimebase5,
      .decodeTimebase6, .decodeTimebase7, .decodeTimebase8, .decodeTimebase9].map (fun i => (run i s0).out.reply)
      = [.timebase 0 Config.timebase0, .timebase 1 (seconds 1), .timebase 2 (seconds 2), .timebase 3 (seconds 3),
          .timebase 4 (seconds 4), .timebase 5 (seconds 5), .timebase 6 (seconds 6), .timebase 7 (seconds 7),
          .timebase 8 (seconds 8), .timebase 9 (seconds 9)] := by decide +kernel
/-- H10, H12, H13: every code of 10 and more. -/
theorem test_timebase_fallback :
    [Instr.decodeTimebaseFallback10 0, .decodeTimebaseFallback12 1, .decodeTimebaseFallback16 2,
      .decodeTimebaseFallback32 18, .decodeTimebaseFallback64 3, .decodeTimebaseFallback128 123].all
      (fun i => (run i s0).out.reply == .timebase 9 (seconds 9)) = true := by decide +kernel
/-- H16 to H19, H15. -/
theorem test_trigger_labels :
    [Instr.decodeTriggerPlusInternal 0 0 0, .decodeTriggerMinusInternal 0 0 0, .decodeTriggerPlusExternal 0 0 0,
      .decodeTriggerMinusExternal 0 0, .decodeTriggerAuto 0 0].map (fun i => (run i s0).out.reply)
      = [.trigger .plusInternal, .trigger .minusInternal, .trigger .plusExternal, .trigger .minusExternal,
          .trigger .auto] := by decide +kernel
/-- P3, second frame: h0 = 0x3C, h1 = 0x32, h2 = 0x08; the order of the two labels is log 26's. -/
theorem test_decode_P3 :
    (run .decode (stateAt .seek 0x3C#8 0x32#8 0x08#8 bspline)).out
      = ⟨[.reservedHeaderCode .coupling, .reservedHeaderCode .range], [],
          .config ⟨.reserved, .reserved, .minusExternal, 9, seconds 9⟩⟩ := by decide +kernel
theorem test_decode_refuses_before_data : refusal (exec .decode { s0 with hasData := false }) = some .noFrameYet := by decide +kernel
/-- K1, K2, K3, K4, K5, K6, K8, K9, K10, K11, K12. -/
theorem test_kernel_bspline3 :
    [0, 1 / 2, -1 / 2, 1, 3 / 2, 2, -1 / 5, 9 / 5, 1 / 4, 7 / 5, 199 / 100].map bspline3
      = [2 / 3, 23 / 48, 23 / 48, 1 / 6, 1 / 48, 0, 473 / 750, 1 / 750, 235 / 384, 9 / 250, 1 / 6000000] := by decide +kernel
theorem test_kernel_bspline3_replies :
    (run (.kernelBspline3 (1 / 2)) s0).out.reply = .number ⟨23 / 48, []⟩ := by decide +kernel
/-- K13, K15, K18, and K14 as `sinc(1/2) * sinc(1/6)`. -/
theorem test_kernel_lanczos3 :
    [0, 1, 2, 3, -3, 7 / 2, -1 / 2].map lanczos3
      = [⟨1, []⟩, ⟨0, []⟩, ⟨0, []⟩, ⟨0, []⟩, ⟨0, []⟩, ⟨0, []⟩, ⟨0, [(1, 1 / 2)]⟩] := by decide +kernel
theorem test_kernel_lanczos3_replies : (run (.kernelLanczos3 0) s0).out.reply = .number ⟨1, []⟩ := by decide +kernel
/-- W1: for `O = 1`, `i = -1..128`. -/
theorem test_positions_W1 :
    (positions .halfOpen 1).length = 130 ∧ (positions .halfOpen 1).head? = some (-1)
    ∧ (positions .halfOpen 1).getLast? = some 128 ∧ (positions .halfOpen 5).length = 650 := by decide +kernel
theorem test_positions_replies :
    (run (.reconPositions 2) s0).out.reply = .positions (positions .halfOpen 2) := by decide +kernel
/-- W4, `BSPLINE3`: the impulse response at 40, 41, 44, 45, 46, 48, 50, 52, 60. -/
theorem test_amplitude_W4_bspline3 :
    ([40, 41, 44, 45, 46, 48, 50, 52, 60].map fun i => (run (.reconAmplitude i 5) s0).out.reply)
      = [0, 1 / 750, 32 / 375, 1 / 6, 106 / 375, 202 / 375, 2 / 3, 202 / 375, 0].map fun a => .number ⟨a, []⟩ := by decide +kernel
/-- W4, `LANCZOS3`: 0, 0, 1, 0 at 35, 45, 50, 65, and the kernel itself at 52. -/
theorem test_amplitude_W4_lanczos3 :
    ([35, 45, 50, 65, 52].map fun i => (run (.reconAmplitude i 5) { s0 with build := lanczos }).out.reply)
      = [.number ⟨0, []⟩, .number ⟨0, []⟩, .number ⟨1, []⟩, .number ⟨0, []⟩, .number ⟨0, [(1, 2 / 5)]⟩] := by decide +kernel
/-- W5, left edge. -/
theorem test_amplitude_W5 :
    ([-5, -4, 0, 1, 5, 9, 10].map fun i => amplitude .bspline3 (fun n => if n = 0 then 0x40#8 else 0) i 5)
      = [1, 749 / 750, 5 / 6, 179 / 250, 1 / 6, 1 / 750, 0].map fun a => ⟨a, []⟩ := by decide +kernel
/-- W6, right edge, and W8, the ramp. -/
theorem test_amplitude_W6_W8 :
    ([625, 626, 634, 635, 644].map fun i => amplitude .bspline3 (fun n => if n = 127 then 0x40#8 else 0) i 5)
      = ([0, 1 / 750, 179 / 250, 5 / 6, 1].map fun a => ⟨a, []⟩)
    ∧ ([-5, 0, 1, 100, 315, 644].map fun i => amplitude .bspline3 (fun n => BitVec.ofNat 8 (min n 63)) i 5)
      = ([0, 1 / 384, 107 / 24000, 5 / 16, 377 / 384, 63 / 64].map fun a => ⟨a, []⟩) := by decide +kernel
/-- W9, rows 2 and 4, and the two ends of R214. -/
theorem test_xcoord_W9 :
    (run (.reconXcoord 52 8 5) s0).out.reply = .number ⟨60 / 640, []⟩
    ∧ (run (.reconXcoord 52 (-100) 5) s0).out.reply = .number ⟨-48 / 640, []⟩
    ∧ (run (.reconXcoord (-5) 0 5) s0).out.reply = .number ⟨-5 / 640, []⟩ := by decide +kernel
/-- W9, rows 1 and 2, and R215's `a = 2`. -/
theorem test_ycoord_W9 :
    (run (.reconYcoord ⟨202 / 375, []⟩ 0) s0).out.reply = .number ⟨1991 / 3750, []⟩
    ∧ (run (.reconYcoord ⟨202 / 375, []⟩ (-3)) s0).out.reply = .number ⟨3757 / 7500, []⟩
    ∧ (run (.reconYcoord ⟨2, []⟩ 0) s0).out.reply = .number ⟨17 / 10, []⟩ := by decide +kernel
/-- P4's points 0 and 57 with `deltaX = 5`, `deltaY = -3`, and 650 points. -/
theorem test_recon_P4 :
    (pointsOf (run (.recon none) { s0 with deltaX := 5 }).out.reply).length = 650
    ∧ (pointsOf (run (.recon none) { s0 with deltaX := 5 }).out.reply)[0]? = some ⟨0, ⟨7 / 100, []⟩⟩
    ∧ (pointsOf (run (.recon none) { s0 with deltaX := 5 }).out.reply)[57]? = some ⟨57 / 640, ⟨3757 / 7500, []⟩⟩ := by decide +kernel
theorem test_recon_refuses_oversample_below_1 : refusal (exec (.recon (some 0)) s0) = some .oversampleBelowOne := by decide +kernel
/-- S8, corrected: one frame, `hasData`, and the position `SEEK`. -/
theorem test_frame_S8 :
    (run (.frame 0 0 0 0 (List.replicate 128 0x80#8) (List.replicate 5 0)) { s0 with hasData := false }).out.frames
      = [[0, 0, 0, 0] ++ List.replicate 128 0x80#8 ++ List.replicate 5 0]
    ∧ (run (.frame 0 0 0 0 (List.replicate 128 0x80#8) (List.replicate 5 0)) s0).pos = .seek := by decide +kernel
/-- P1's first three bytes. -/
theorem test_noise_P1 :
    (run (.noise [0x00#8, 0x41#8, 0xA3#8]) s0).out.events = [.noiseDrop 0x00#8, .noiseDrop 0x41#8, .noiseDrop 0xA3#8] := by decide +kernel
/-- F16g as one burst: one frame, after a `Resync(136)`. -/
theorem test_burst_F16g :
    (feedAll (0x5C#8 :: (List.replicate 136 0x01#8 ++ 0x5C#8 :: List.replicate 137 0x02#8)) s0).out.frames
      = [List.replicate 137 0x02#8] := by decide +kernel
/-- F10, F11: a paused byte and a poll without one change nothing. -/
theorem test_paused_byte_is_not_taken :
    (after s0 (step { s0 with pos := .collect 7, paused := true, pending := [.poll (some 0x5C#8)] })).pos = .collect 7
    ∧ (after s0 (step { s0 with pos := .collect 7, pending := [.poll none] })).pos = .collect 7 := by decide +kernel
/-- 43 R222: an offset of 8 bits at a port is sign-extended. -/
theorem test_edge_sign_extends :
    (after s0 (step { s0 with pending := [.edge ⟨false, true, 0x5C#8, false, 0xFF, 0x7F⟩] })).deltaX = -1
    ∧ (after s0 (step { s0 with pending := [.edge ⟨false, true, 0x5C#8, false, 0xFF, 0x7F⟩] })).pos = .collect 0 := by decide +kernel
/-- The word `0x5C` placed at reset runs next. -/
theorem test_placed_word_runs : (after State.reset (step (State.reset.withFetchWord 8 0x5C))).pos = .collect 0 := by rfl

/-! ### A state and operands that meet the hypotheses of each statement -/

/-- The 137 bytes of a frame, all 0x01. -/
def ones : List Byte := List.replicate 137 0x01#8

theorem witness_DecodeReadsBackEveryEncoding_stream :
    (Instr.dataStoreClear6 0 0x12#6).wellFormed = true ∧ (Instr.dataStoreClear6 0 0x12#6).selectedIn ⟨.collect 135, .bspline3⟩ = true
    ∧ (Instr.dataCompleteClear6 0 0x12#6).selectedIn ⟨.collect 136, .bspline3⟩ = true
    ∧ (Instr.dataDropClear6 0 0x12#6).selectedIn ⟨.seek, .bspline3⟩ = true := by decide
theorem witness_DecodeReadsBackEveryEncoding_other :
    (Instr.frame 0 0 0 0 (List.replicate 128 0x5B#8) (List.replicate 5 0xFB#8)).wellFormed = true
    ∧ (Instr.noise [0x5B#8]).wellFormed = true ∧ (Instr.noise [0x5B#8]).selectedIn ⟨.seek, .bspline3⟩ = true
    ∧ (Instr.kernelLanczos3 0).selectedIn ⟨.seek, .lanczos3⟩ = true ∧ (Instr.reconXcoord 0 0 1).wellFormed = true
    ∧ (Instr.reconYcoord ⟨0, [(1, 1 / 2), (-1, 3 / 2)]⟩ 0).wellFormed = true := by decide +kernel
theorem witness_StepRunsDecodedInstruction :
    (∃ s : State, s.pending = [.poll (some 0x5C#8)] ∧ s.paused = false) ∧ (∃ s : State, s.pending = [.decodeField .timebase])
    ∧ (∃ s : State, s.pending = [.call .decode])
    ∧ ∃ s : State, s.pending = [.burst [0x41#8]] ∧ s.paused = false ∧ decodeBurst s.pos [0x41#8] = .ok (.noise [0x41#8]) :=
  ⟨⟨{ s0 with pending := [.poll (some 0x5C#8)] }, rfl, rfl⟩, ⟨{ s0 with pending := [.decodeField .timebase] }, rfl⟩,
    ⟨{ s0 with pending := [.call .decode] }, rfl⟩, ⟨{ s0 with pending := [.burst [0x41#8]] }, rfl, rfl, by decide +kernel⟩⟩
theorem witness_PlacedTableWordRunsNext :
    decodeWord State.reset.decodeContext (encodedOfTableWord 8 0x41) = .ok (.dataDropClear4 0 0 1)
    ∧ decodeWord ({ s0 with pos := .collect 136 } : State).decodeContext (encodedOfTableWord 8 0x41) = .ok (.dataCompleteClear4 0 0 1)
    ∧ decodeWord State.reset.decodeContext (encodedOfTableWord 0 0) = .ok (.noise []) := ⟨by rfl, by decide +kernel, by rfl⟩
theorem witness_NoFeedWithoutByteOrWhilePaused :
    (∃ s : State, s.pending = [.poll none]) ∧ (∃ s : State, s.pending = [.poll (some 0x5C#8)] ∧ s.paused = true)
    ∧ (∃ s : State, s.pending = [.burst ones] ∧ s.paused = true) ∧ ∃ s : State, s.pending = [] :=
  ⟨⟨{ s0 with pending := [.poll none] }, rfl⟩, ⟨{ s0 with paused := true, pending := [.poll (some 0x5C#8)] }, rfl, rfl⟩,
    ⟨{ s0 with paused := true, pending := [.burst ones] }, rfl, rfl⟩, ⟨s0, rfl⟩⟩
theorem witness_EdgeFeedsExactlyWhenEnabled :
    ∃ s : State, s.pending = [.edge ⟨true, true, 0x5C#8, false, 0xFF, 0⟩] :=
  ⟨{ s0 with pending := [.edge ⟨true, true, 0x5C#8, false, 0xFF, 0⟩] }, rfl⟩
theorem witness_UserInputWritesOnlyItsCells :
    (∃ s : State, s.pending = [.setPaused true]) ∧ (∃ s : State, s.pending = [.setDeltaX (-1000000)])
    ∧ ∃ s : State, s.pending = [.setDeltaY 1000000] :=
  ⟨⟨{ s0 with pending := [.setPaused true] }, rfl⟩, ⟨{ s0 with pending := [.setDeltaX (-1000000)] }, rfl⟩,
    ⟨{ s0 with pending := [.setDeltaY 1000000] }, rfl⟩⟩
theorem witness_ResetSetsSeekAndNoData : ∃ s : State, s.pending = [.reset] ∧ s.pos = .collect 136 ∧ s.hasData = true :=
  ⟨{ s0 with pos := .collect 136, pending := [.reset] }, rfl, rfl, rfl⟩
theorem witness_DataStoreWritesCellAndAdvances :
    ({ s0 with pos := .collect 0 } : State).memoryCanonical = true ∧ (0 : Fin 137).val < 136
    ∧ ({ s0 with pos := .collect 135 } : State).memoryCanonical = true ∧ (135 : Fin 137).val < 136 := by decide +kernel
theorem witness_DataCompleteHandsOverTheFrame :
    ({ s0 with pos := .collect 136 } : State).memoryCanonical = true ∧ ({ s0 with pos := .collect 136 } : State).pos = .collect 136 := by decide +kernel
theorem witness_DataDropChangesNothing : s0.pos = .seek := rfl
theorem witness_DataRowsFeedAtEveryPosition : encode (.dataStoreClear6 0 0x12#6) = .stream 0x12#8 := by decide
theorem witness_TransitionsAreTheTable :
    s0.memoryCanonical = true ∧ ({ s0 with pos := .collect 135 } : State).memoryCanonical = true
    ∧ ({ s0 with pos := .collect 136 } : State).memoryCanonical = true := by decide +kernel
theorem witness_ChunkingDoesNotChangeFrames : ∃ s : State, s.pending = [.burst (0x5C#8 :: ones)] ∧ s.paused = false :=
  ⟨{ s0 with pending := [.burst (0x5C#8 :: ones)] }, rfl, rfl⟩
theorem witness_BufferHoldsBytesSinceMarker :
    s0.memoryCanonical = true ∧ s0.pos = .seek ∧ (feedAll [0x5C#8] s0).pos = .collect 0
    ∧ (feedAll (0x5C#8 :: ones.tail) s0).pos = .collect 136 := by decide +kernel
theorem witness_FrameIffMarkerAnd137DataBytes :
    s0.memoryCanonical = true ∧ s0.pos = .seek
    ∧ (feedAll ((0x5C#8 :: ones.tail) ++ [0x01#8]) s0).out.frames = (feedAll (0x5C#8 :: ones.tail) s0).out.frames ++ [ones]
    ∧ (feedAll ((0x5C#8 :: ones.tail.tail) ++ [0x01#8]) s0).out.frames = [] := by decide +kernel
theorem witness_NoFrameWithoutMarkerAnd137DataBytes :
    ¬ ∃ before m f after, [0x41#8, 0x5C#8, 0x41#8] = before ++ m :: (f ++ after) ∧ isSync m = true ∧ f.length = 137
        ∧ f.all isData = true := by
  rintro ⟨before, m, f, after, h, -, hl, -⟩
  have := congrArg List.length h
  simp at this
  omega
theorem witness_AtMostOneFramePer138Bytes :
    s0.pos = .seek ∧ isSync 0x5C#8 = true ∧ ones.all isData = true ∧ 137 ≤ ones.length := by decide +kernel
theorem witness_ShiftRegisterBuildIsIndistinguishable :
    ∃ t : ShiftSync, s0.memoryCanonical = true ∧ s0.pos = .seek ∧ t.pos = .seek ∧ t.stages.length = 137 ∧ t.hasData = s0.hasData :=
  ⟨⟨.seek, List.replicate 137 0xAA#8, [], true⟩, by decide +kernel, rfl, rfl, List.length_replicate, rfl⟩
theorem witness_FrameNotationDeliversItsBytes :
    ({ s0 with pos := .collect 136 } : State).memoryCanonical = true
    ∧ (Instr.frame 0x14#8 9 0x48#8 0 (List.replicate 128 0x40#8) (List.replicate 5 0)).wellFormed = true := by decide +kernel
theorem witness_NoiseAtSeekDropsEveryByte : s0.pos = .seek ∧ (Instr.noise [0x00#8, 0x5B#8]).wellFormed = true := by decide +kernel
/-- Of CouplingRowsReplyTheirLabel, RangeRowsReplyTheirLabel, TimebaseRowsReplyTheirEntry,
TriggerRowsReplyByPriority and DecodeComposesTheFourFields. -/
theorem witness_hasData : s0.hasData = true := rfl
/-- H8 against H3, and two trigger bytes that differ in bits 7, 2, 1, 0. -/
theorem witness_DecodeIgnoresUnassignedBits :
    (stateAt .seek 0xE3#8 9 0x87#8 bspline).build = (stateAt .seek 0x20#8 9 0 bspline).build
    ∧ ((stateAt .seek 0xE3#8 9 0x87#8 bspline).snap.read 0).extractLsb' 2 4 = ((stateAt .seek 0x20#8 9 0 bspline).snap.read 0).extractLsb' 2 4
    ∧ (stateAt .seek 0xE3#8 9 0x87#8 bspline).snap.read 1 = (stateAt .seek 0x20#8 9 0 bspline).snap.read 1
    ∧ ((stateAt .seek 0xE3#8 9 0x87#8 bspline).snap.read 2).extractLsb' 3 4 = ((stateAt .seek 0x20#8 9 0 bspline).snap.read 2).extractLsb' 3 4
    ∧ goesOn (exec .decode (stateAt .seek 0xE3#8 9 0x87#8 bspline)) = true
    ∧ goesOn (exec .decode (stateAt .seek 0x20#8 9 0 bspline)) = true := by decide +kernel
theorem witness_NoSnapshotReaderBeforeData :
    State.reset.hasData = false ∧ (∃ s : State, s.hasData = false ∧ s.pending = [.readSnap 136])
    ∧ ∃ s : State, s.hasData = false ∧ s.pending = [.readFrame] :=
  ⟨rfl, ⟨{ s0 with hasData := false, pending := [.readSnap 136] }, rfl, rfl⟩, ⟨{ s0 with hasData := false, pending := [.readFrame] }, rfl, rfl⟩⟩
theorem witness_CallerReadsTheSnapshot :
    (∃ s : State, s.hasData = true ∧ s.pending = [.readSnap 0]) ∧ (∃ s : State, s.hasData = true ∧ s.pending = [.readSnap 136])
    ∧ (∃ s : State, s.hasData = true ∧ s.pending = [.readFrame])
    ∧ (∃ s : State, s.hasData = true ∧ s.pending = [.readHasData]) ∧ ∃ s : State, s.hasData = false ∧ s.pending = [.readHasData] :=
  ⟨⟨{ s0 with pending := [.readSnap 0] }, rfl, rfl⟩, ⟨{ s0 with pending := [.readSnap 136] }, rfl, rfl⟩,
    ⟨{ s0 with pending := [.readFrame] }, rfl, rfl⟩, ⟨{ s0 with pending := [.readHasData] }, rfl, rfl⟩,
    ⟨{ s0 with hasData := false, pending := [.readHasData] }, rfl, rfl⟩⟩
theorem witness_KernelsAreEvenWithCompactSupport :
    (supportRadius .bspline3 : Rat) ≤ |2| ∧ (supportRadius .lanczos3 : Rat) ≤ |-3| := by decide +kernel
theorem witness_KernelsAreEvenWithCompactSupport_reals :
    (supportRadius .bspline3 : ℝ) ≤ |(-2 : ℝ)| ∧ (supportRadius .lanczos3 : ℝ) ≤ |(3 : ℝ)| := by norm_num [supportRadius]
/-- A build with exact reals computes the kernel of the spec with `TOL` 0, and holds -2 and 2. -/
theorem witness_KernelsAreEvenWithCompactSupport_build :
    bspline.computesKernel (realKernel .bspline3) ∧ bspline.numFmt.Holds 2 ∧ bspline.numFmt.Holds (-2)
    ∧ (supportRadius bspline.kernel : ℝ) ≤ |(2 : ℝ)| := by
  refine ⟨fun t _ => ⟨⟨trivial, by simp [bspline, toleranceToReal]⟩, fun h => ?_,
    fun _ => by simp [realKernel, realBspline3]⟩, trivial, trivial, by norm_num [supportRadius, bspline]⟩
  have h2 : (2 : ℝ) ≤ |t| := by simpa [supportRadius, bspline] using h
  simp only [realKernel, realBspline3, if_neg (not_lt.mpr h2), if_neg (not_lt.mpr (le_trans (by norm_num : (1 : ℝ) ≤ 2) h2))]
/-- 40 R119: 1/2 is a number of a binary floating point format and of a fixed point format. -/
theorem test_formats_hold_one_half : (NumFormat.float 24 (-149) 104).Holds (1 / 2) ∧ (NumFormat.fixed 8 4).Holds (1 / 2) := by
  refine ⟨⟨1, -1, by norm_num, by norm_num, by norm_num, by norm_num⟩, ⟨8, by norm_num, by norm_num, by norm_num⟩⟩
theorem witness_KernelCallIsTheActiveFamily :
    (∃ s : State, s.pending = [.call (.kernel (1 / 2))] ∧ s.build.kernel = .bspline3)
    ∧ ∃ s : State, s.pending = [.call (.kernel (1 / 2))] ∧ s.build.kernel = .lanczos3 :=
  ⟨⟨{ s0 with pending := [.call (.kernel (1 / 2))] }, rfl, rfl⟩,
    ⟨{ s0 with build := lanczos, pending := [.call (.kernel (1 / 2))] }, rfl, rfl⟩⟩
theorem witness_LanczosInterpolatesAndIsBounded : (1 : ℤ) ≠ 0 ∧ (3 : ℝ) ≤ |(-3 : ℝ)| := by norm_num
theorem witness_PositionsAreTheSpan : (1 : Int) ≤ 1 ∧ s0.build.positionsEnd = .halfOpen := by decide
theorem witness_AmplitudeIsTheWeightedSum :
    s0.hasData = true ∧ (1 : Int) ≤ 1 ∧ s0.build.kernel = .bspline3
    ∧ ({ s0 with build := lanczos } : State).hasData = true ∧ ({ s0 with build := lanczos } : State).build.kernel = .lanczos3 := by decide
theorem witness_XcoordIsExactQuotient : (1 : Int) ≤ 1 := by decide
theorem witness_ReconEmitsOnePointPerPosition :
    s0.hasData = true ∧ (1 : Int) ≤ (none : Option Int).getD 5 ∧ (1 : Int) ≤ (some 1 : Option Int).getD 5 := by decide
/-- P3's first frame: 128 samples of 0x40. -/
def constant : State := { s0 with snap := Memory.writeBytes [] 4 (List.replicate 128 0x40#8) }
theorem witness_ConstantInputIsReproduced :
    constant.hasData = true ∧ constant.build.kernel = .bspline3
    ∧ ∀ n, n < 128 → constant.snap.read (constant.build.sampleBase.val + n) = 0x40#8 := by decide +kernel
/-- The same frame with `LANCZOS3`, at `p = 2`. -/
theorem witness_ConstantInputIsReproduced_lanczos :
    ({ constant with build := lanczos } : State).hasData = true ∧ (5 : Int) ∣ 10
    ∧ ({ constant with build := lanczos } : State).build.kernel = .lanczos3
    ∧ ∀ n, n < 128 → ({ constant with build := lanczos } : State).snap.read (lanczos.sampleBase.val + n) = 0x40#8 := by decide +kernel
/-- A build with exact reals computes the spec's amplitudes and points with `TOL` 0. -/
theorem witness_exact_build_computes :
    bspline.computesAmplitude (realAmplitude .bspline3)
    ∧ ∀ dx dy : Int, bspline.computesPoints s0.sample dx dy 5
        ((reconstruct bspline s0.sample dx dy 5).map fun p => ((p.x : ℝ), numToReal p.y)) := by
  have h : ∀ x : ℝ, bspline.approximates x x := fun x => ⟨trivial, by simp [bspline, toleranceToReal]⟩
  refine ⟨fun _ _ _ _ => h _, fun dx dy => ?_⟩
  unfold Build.computesPoints
  rw [List.forall₂_map_left_iff, List.forall₂_same]
  exact fun p _ => ⟨h _, h _⟩
theorem witness_AmplitudeBeyondTheEdgesIsTheEdgeSample :
    s0.hasData = true ∧ s0.build.kernel = .bspline3 ∧ (-5 : Int) ≤ -5 ∧ 128 * 5 ≤ (640 : Int) := by decide
theorem witness_OffsetsShiftPointsLinearly :
    s0.hasData = true ∧ (1 : Int) ≤ (none : Option Int).getD 5 ∧ s0.deltaX ≠ 0 ∧ s0.deltaY ≠ 0 := by decide
theorem witness_OversampleBelowOneIsRefused : (0 : Int) < 1 ∧ s0.hasData = true := by decide
/-- A step that stores, at 135, over canonical memory without markers. -/
theorem witness_StepKeepsMemoryCanonical_and_MarkersOutOfMemory :
    ∃ s t : State, s.memoryCanonical = true ∧ s.holdsOnlyData = true ∧ step s = .next t ∧ t.buf ≠ s.buf :=
  ⟨{ s0 with pos := .collect 135, pending := [.poll (some 0x41#8)] },
    after s0 (step { s0 with pos := .collect 135, pending := [.poll (some 0x41#8)] }),
    by decide +kernel, by decide +kernel, eq_next s0 (by decide +kernel), by decide +kernel⟩
/-- A completing step, and one that returns no frame. -/
theorem witness_SnapshotChangesOnlyByCompletion :
    (∃ s t : State, step s = .next t ∧ t.out.frames ≠ [])
    ∧ ∃ s t : State, step s = .next t ∧ (∀ a rest, s.pending = a :: rest → a.isReset = false) ∧ t.out.frames = [] :=
  ⟨⟨{ s0 with pos := .collect 136, pending := [.poll (some 0x41#8)] },
      after s0 (step { s0 with pos := .collect 136, pending := [.poll (some 0x41#8)] }), eq_next s0 (by decide +kernel), by decide +kernel⟩,
    ⟨s0, after s0 (step s0), eq_next s0 (by decide +kernel), (by intro a rest h; cases h), by decide +kernel⟩⟩
/-- `hasData` set by a completion, and cleared by reset. -/
theorem witness_HasDataFollowsCompletionAndReset :
    (∃ s t : State, step s = .next t ∧ s.hasData = false ∧ t.hasData = true)
    ∧ ∃ s t : State, step s = .next t ∧ s.hasData = true ∧ t.hasData = false :=
  ⟨⟨{ s0 with hasData := false, pos := .collect 136, pending := [.poll (some 0x41#8)] },
      after s0 (step { s0 with hasData := false, pos := .collect 136, pending := [.poll (some 0x41#8)] }),
      eq_next s0 (by decide +kernel), by decide +kernel, by decide +kernel⟩,
    ⟨{ s0 with pending := [.reset] }, after s0 (step { s0 with pending := [.reset] }),
      eq_next s0 (by decide +kernel), by decide +kernel, by decide +kernel⟩⟩
theorem witness_CollectingEndsOnlyByCompletionOrReset :
    ∃ s t : State, step s = .next t ∧ s.collecting = true ∧ t.collecting = false :=
  ⟨{ s0 with pos := .collect 136, pending := [.poll (some 0x41#8)] },
    after s0 (step { s0 with pos := .collect 136, pending := [.poll (some 0x41#8)] }),
    eq_next s0 (by decide +kernel), by decide +kernel, by decide +kernel⟩
theorem witness_NoInputStopsTheMachine :
    ∃ s : State, s.pending = [.burst (0x5C#8 :: ones)] ∧ ∀ a rest, s.pending = a :: rest → a.neverStops = true :=
  ⟨{ s0 with pending := [.burst (0x5C#8 :: ones)] }, rfl, by intro a rest h; cases h; rfl⟩
theorem witness_ReadersWriteNothing :
    (∃ s t : State, s.pending = [.decodeField .coupling] ∧ (Action.decodeField .coupling).neverStops = false ∧ step s = .next t)
    ∧ ∃ s t : State, s.pending = [.readHasData] ∧ step s = .next t :=
  ⟨⟨{ s0 with pending := [.decodeField .coupling] }, after s0 (step { s0 with pending := [.decodeField .coupling] }),
      rfl, rfl, eq_next s0 (by decide +kernel)⟩,
    ⟨{ s0 with pending := [.readHasData] }, after s0 (step { s0 with pending := [.readHasData] }), rfl, eq_next s0 (by decide +kernel)⟩⟩
theorem witness_BuildNeverChanges : ∃ t : State, step s0 = .next t := ⟨after s0 (step s0), eq_next s0 (by decide +kernel)⟩
/-- With and without a frame; an edge that completes a frame; a reader's action between two edges. -/
theorem witness_PortsShowTheSnapshotCodes :
    State.reset.hasData = false ∧ s0.hasData = true
    ∧ (∃ s : State, s.pending = [.edge ⟨false, true, 0x41#8, false, 0, 0⟩] ∧ s.pos = .collect 136)
    ∧ ∃ s t : State, (∀ p rest, s.pending ≠ .edge p :: rest) ∧ step s = .next t ∧ s.ports.frameValid = true :=
  ⟨rfl, rfl, ⟨{ s0 with pos := .collect 136, pending := [.edge ⟨false, true, 0x41#8, false, 0, 0⟩] }, rfl, rfl⟩,
    ⟨{ s0 with ports := ⟨true, none, [], 1⟩, pending := [.readHasData] },
      after s0 (step { s0 with ports := ⟨true, none, [], 1⟩, pending := [.readHasData] }),
      (by intro p rest h; cases h), eq_next s0 (by decide +kernel), rfl⟩⟩
/-- `snap_q` at `snap_addr` 136 has the last byte, and at 137 no value. -/
theorem witness_PortsShowTheSnapshotCodes_addr :
    (portsOut 136#8 { s0 with snap := [(136, 0x41#8)] }).snapQ = some 0x41#8
    ∧ (portsOut 137#8 { s0 with snap := [(136, 0x41#8)] }).snapQ = none := by decide +kernel
/-- 70 R280: `frame_valid` after the completing edge, kept by a reader's action, gone after the next edge. -/
theorem test_frame_valid_pulse :
    (after s0 (step { s0 with pos := .collect 136, pending := [.edge ⟨false, true, 0x41#8, false, 0, 0⟩] })).ports.frameValid = true
    ∧ (after s0 (step { s0 with ports := ⟨true, none, [], 1⟩, pending := [.readFrame] })).ports.frameValid = true
    ∧ (after s0 (step { s0 with ports := ⟨true, none, [], 1⟩, pending := [.edge ⟨false, false, 0, false, 0, 0⟩] })).ports.frameValid = false := by
  refine ⟨?_, by decide +kernel, ?_⟩ <;> exact PortRegs.clock_frameValid _ _
/-- 70 R280: the points wait in increasing position; the first leaves, or none. -/
theorem test_points_wait :
    ((run (.recon none) s0).ports.waiting.length = 650 ∧ (run (.recon none) s0).ports.point = none)
    ∧ ∀ r : PortRegs, (r.clock false).point = r.waiting.head? ∨ (r.clock false).point = none := by
  refine ⟨by decide +kernel, fun r => ?_⟩
  rcases PortRegs.clock_cases false r with h | h <;> rw [h]
  · exact .inl rfl
  · exact .inr rfl

end Sys2Proof.Tests
end

section
/-!
PROOFS, 00_scope.md: what a step runs (R7, R140, R180), what a placed table word runs (log 4), and that a
reader's action writes nothing (R7 (c), 20 R56).
-/

namespace Sys2Proof.Machine

/-! ### What an action gives the decoder -/

@[simp] theorem State.startStep_decodeContext (rest : List Action) (s : State) :
    (s.startStep rest).decodeContext = s.decodeContext := rfl

@[simp] theorem State.withFetchWord_decodeContext (s : State) (nbits w : Nat) :
    (s.withFetchWord nbits w).decodeContext = s.decodeContext := rfl

theorem fetch_poll_of_not_paused {s : State} (b : Byte) (h : s.paused = false) :
    fetch (.poll (some b)) s = .next (s, some (.stream b)) := by
  simp [fetch, h]

theorem fetch_burst_of_not_paused {s : State} (bs : List Byte) (h : s.paused = false) :
    fetch (.burst bs) s = .next (s, some (.burst bs)) := by
  simp [fetch, h]

theorem fetch_decodeField (f : HeaderField) (s : State) :
    fetch (.decodeField f) s = .next (s, some (.header f (s.headerByte f))) := rfl

theorem fetch_call (c : Call) (s : State) : fetch (.call c) s = .next (s, some (.call c)) := rfl

/-- A plain read that goes on leaves an answer, and no instruction (20 R59, 10 R27). -/
theorem fetch_readSnap_next {s : State} {n : Fin 137} {p : State × Option Encoded}
    (h : fetch (.readSnap n) s = .next p) : ∃ r, p = (s.answer r, none) := by
  simp only [fetch] at h
  split at h <;> cases h
  exact ⟨_, rfl⟩

theorem fetch_readFrame_next {s : State} {p : State × Option Encoded}
    (h : fetch .readFrame s = .next p) : ∃ r, p = (s.answer r, none) := by
  simp only [fetch] at h
  split at h <;> cases h
  exact ⟨_, rfl⟩

theorem fetch_readHasData_next {s : State} {p : State × Option Encoded}
    (h : fetch .readHasData s = .next p) : ∃ r, p = (s.answer r, none) := by
  cases h
  exact ⟨_, rfl⟩

/-- A table word reaches the unit as one byte or as a run of bytes (log 5). -/
theorem encodedOfTableWord_cases (nbits w : Nat) :
    (∃ b, encodedOfTableWord nbits w = .stream b) ∨ ∃ bs, encodedOfTableWord nbits w = .burst bs := by
  unfold encodedOfTableWord
  split
  · exact .inl ⟨_, rfl⟩
  · exact .inr ⟨_, rfl⟩

/-- The action that stands for a table word gives the decoder that word back, unless paused. -/
theorem fetch_actionOf_tableWord {s : State} (nbits w : Nat) (h : s.paused = false) :
    fetch (actionOf (encodedOfTableWord nbits w)) s = .next (s, some (encodedOfTableWord nbits w)) := by
  rcases encodedOfTableWord_cases nbits w with ⟨b, hw⟩ | ⟨bs, hw⟩ <;> rw [hw]
  · exact fetch_poll_of_not_paused b h
  · exact fetch_burst_of_not_paused bs h

/-! ### The step by what was fetched -/

/-- A fetched word that decodes runs as its instruction, in the state the action left. -/
theorem step_of_fetched {s s1 : State} {a : Action} {rest : List Action} {w : Encoded} {i : Instr}
    (hp : s.pending = a :: rest) (hf : fetch a (s.startStep rest) = .next (s1, some w))
    (hd : decodeWord s1.decodeContext w = .ok i) : step s = exec i s1 := by
  rw [step_action hp, hf]
  simp only [afterFetch, runEncoded, hd]

/-- An action that gives no instruction is the whole step. -/
theorem step_of_fetched_none {s s1 : State} {a : Action} {rest : List Action} (hp : s.pending = a :: rest)
    (hf : fetch a (s.startStep rest) = .next (s1, none)) : step s = .next s1 := by
  rw [step_action hp, hf]
  rfl

/-- If the step of an action goes on, so does its fetch. -/
theorem fetch_of_step_next {s t : State} {a : Action} {rest : List Action} (hp : s.pending = a :: rest)
    (h : step s = .next t) : ∃ p, fetch a (s.startStep rest) = .next p := by
  rcases step_cases h with ⟨hnil, _⟩ | ⟨a', rest', hcons, hstep⟩
  · rw [hp] at hnil
    cases hnil
  · rw [hp] at hcons
    cases hcons
    rcases hstep with hf | ⟨_, _, _, hf, _⟩ | ⟨_, _, _, hf, _⟩ <;> exact ⟨_, hf⟩

theorem step_poll {s : State} {rest : List Action} {b : Byte} (hp : s.pending = .poll (some b) :: rest)
    (hq : s.paused = false) : step s = exec (decodeStream s.pos b) (s.startStep rest) :=
  step_of_fetched hp (fetch_poll_of_not_paused b hq) rfl

theorem step_decodeField {s : State} {rest : List Action} {f : HeaderField}
    (hp : s.pending = .decodeField f :: rest) :
    step s = exec (decodeHeader f (s.headerByte f)) (s.startStep rest) :=
  step_of_fetched hp (fetch_decodeField f _) rfl

theorem step_call {s : State} {rest : List Action} {c : Call} (hp : s.pending = .call c :: rest) :
    step s = exec (decodeCall s.build.kernel c) (s.startStep rest) :=
  step_of_fetched hp (fetch_call c _) rfl

theorem step_burst {s : State} {rest : List Action} {bs : List Byte} {i : Instr}
    (hp : s.pending = .burst bs :: rest) (hq : s.paused = false) (hd : decodeBurst s.pos bs = .ok i) :
    step s = exec i (s.startStep rest) :=
  step_of_fetched hp (fetch_burst_of_not_paused bs hq) hd

/-! ### What the decoded header rows run -/

/-- A one-bit field is 1 exactly where the bit is set. -/
theorem bitsOf_one_eq_one_iff (b : Byte) (n : Nat) : bitsOf b n 1 = 1#1 ↔ b.getLsbD n = true := by
  simp [bitsOf, BitVec.eq_of_getLsbD_eq_iff]

/-- The row that `h0[5:4]` selects answers the label of the table (42 R181). -/
theorem exec_decodeCoupling (h0 : Byte) (s : State) :
    exec (decodeCoupling h0) s = replyCoupling (couplingOf h0) s := by
  unfold decodeCoupling couplingOf
  split_ifs <;> rfl

/-- The row that `h0[3:2]` selects answers the label of the table (42 R182). -/
theorem exec_decodeRange (h0 : Byte) (s : State) : exec (decodeRange h0) s = replyRange (rangeOf h0) s := by
  unfold decodeRange rangeOf
  split_ifs <;> rfl

theorem exec_decodeTimebaseCode {n : Nat} (h : n < 10) (s : State) :
    exec (decodeTimebaseCode n) s = replyTimebase ⟨n, h⟩ s := by
  interval_cases n <;> rfl

/-- Every pattern of the fallback answers the slowest entry (42 R184). -/
theorem exec_decodeTimebaseFallback (h1 : Byte) (s : State) :
    exec (decodeTimebaseFallback h1) s = replyTimebase 9 s := by
  unfold decodeTimebaseFallback
  split_ifs <;> rfl

theorem exec_decodeTimebase (h1 : Byte) (s : State) :
    exec (decodeTimebase h1) s = replyTimebase (timebaseIndexOf h1) s := by
  unfold decodeTimebase timebaseIndexOf
  split_ifs with h
  · exact exec_decodeTimebaseCode h s
  · exact exec_decodeTimebaseFallback h1 s

/-- The row that the first set flag of `h2` selects answers the label of the table (42 R183). -/
theorem exec_decodeTrigger (h2 : Byte) (s : State) :
    exec (decodeTrigger h2) s = replyTrigger (triggerOf h2) s := by
  unfold decodeTrigger triggerOf
  simp only [bitsOf_one_eq_one_iff]
  split_ifs <;> rfl

/-! ### The frame of a reader -/

/-- What a reader's action leaves: the synchronizer's state, the inputs, the returned frames and the port
registers; only events and the reply may differ. -/
structure State.ReadsOnly (s t : State) : Prop where
  sync : s.sameSync t
  inputs : s.sameInputs t
  frames : t.out.frames = s.out.frames
  ports : t.ports = s.ports

theorem State.ReadsOnly.refl (s : State) : s.ReadsOnly s :=
  ⟨⟨rfl, rfl, rfl, rfl⟩, ⟨rfl, rfl, rfl, rfl, rfl⟩, rfl, rfl⟩

theorem State.ReadsOnly.answer {s t : State} (h : s.ReadsOnly t) (r : Reply) : s.ReadsOnly (t.answer r) :=
  ⟨h.sync, h.inputs, h.frames, h.ports⟩

theorem State.ReadsOnly.raiseIfReserved {s t : State} (h : s.ReadsOnly t) (f : HeaderField) (r : Bool) :
    s.ReadsOnly (t.raiseIfReserved f r) := by
  cases r with
  | false => exact h
  | true => exact ⟨h.sync, h.inputs, h.frames, h.ports⟩

theorem State.readsOnly_answer (s : State) (r : Reply) : s.ReadsOnly (s.answer r) :=
  (State.ReadsOnly.refl s).answer r

theorem replyCoupling_readsOnly {c : Coupling} {s t : State} (h : replyCoupling c s = .next t) :
    s.ReadsOnly t := by
  obtain ⟨_, ⟨⟩⟩ := withFrame_next h
  exact ((State.ReadsOnly.refl s).raiseIfReserved _ _).answer _

theorem replyRange_readsOnly {r : VoltRange} {s t : State} (h : replyRange r s = .next t) :
    s.ReadsOnly t := by
  obtain ⟨_, ⟨⟩⟩ := withFrame_next h
  exact ((State.ReadsOnly.refl s).raiseIfReserved _ _).answer _

theorem replyTrigger_readsOnly {g : Trigger} {s t : State} (h : replyTrigger g s = .next t) :
    s.ReadsOnly t := by
  obtain ⟨_, ⟨⟩⟩ := withFrame_next h
  exact s.readsOnly_answer _

theorem replyTimebase_readsOnly {k : Fin 10} {s t : State} (h : replyTimebase k s = .next t) :
    s.ReadsOnly t := by
  obtain ⟨_, ⟨⟩⟩ := withFrame_next h
  exact s.readsOnly_answer _

/-- Decoding one field of a header byte reads only, whatever the byte. -/
theorem exec_decodeHeader_readsOnly {f : HeaderField} {b : Byte} {s t : State}
    (h : exec (decodeHeader f b) s = .next t) : s.ReadsOnly t := by
  cases f with
  | coupling => exact replyCoupling_readsOnly ((exec_decodeCoupling b s).symm.trans h)
  | range => exact replyRange_readsOnly ((exec_decodeRange b s).symm.trans h)
  | timebase => exact replyTimebase_readsOnly ((exec_decodeTimebase b s).symm.trans h)
  | trigger => exact replyTrigger_readsOnly ((exec_decodeTrigger b s).symm.trans h)

theorem execDecode_readsOnly {s t : State} (h : execDecode s = .next t) : s.ReadsOnly t := by
  obtain ⟨_, ⟨⟩⟩ := withFrame_next h
  exact (((State.ReadsOnly.refl s).raiseIfReserved _ _).raiseIfReserved _ _).answer _

theorem execReconAmplitude_readsOnly {i o : Int} {s t : State} (h : execReconAmplitude i o s = .next t) :
    s.ReadsOnly t := by
  obtain ⟨_, hk⟩ := withFrame_next h
  obtain ⟨_, ⟨⟩⟩ := withOversample_next hk
  exact s.readsOnly_answer _

/-- RECON leaves its points as the reply and at the ports, and nothing else (43 R210, log 22). -/
theorem execRecon_next {o : Option Int} {s t : State} (h : execRecon o s = .next t) :
    ∃ ps, t = s.replyPoints ps := by
  obtain ⟨_, hk⟩ := withFrame_next h
  obtain ⟨_, ⟨⟩⟩ := withOversample_next hk
  exact ⟨_, rfl⟩

/-- The kernel of either family answers with a weight (40 R110: "reads no state and writes none"). -/
theorem exec_decodeCall_kernel (k : KernelFamily) (x : Rat) (s : State) :
    exec (decodeCall k (.kernel x)) s = .next (s.answer (.number (kernelAt k x))) := by
  cases k <;> rfl

/-- A call reads only, except that RECON's points are left at the ports. -/
theorem exec_decodeCall_next {k : KernelFamily} {c : Call} {s t : State}
    (h : exec (decodeCall k c) s = .next t) :
    s.ReadsOnly t ∨ ∃ o ps, c = .recon o ∧ t = s.replyPoints ps := by
  cases c with
  | kernel x =>
    rw [exec_decodeCall_kernel] at h
    cases h
    exact .inl (s.readsOnly_answer _)
  | decode => exact .inl (execDecode_readsOnly h)
  | recon o =>
    obtain ⟨ps, hps⟩ := execRecon_next h
    exact .inr ⟨o, ps, rfl, hps⟩
  | positions o =>
    obtain ⟨_, ⟨⟩⟩ := withOversample_next h
    exact .inl (s.readsOnly_answer _)
  | amplitude i o =>
    exact .inl (execReconAmplitude_readsOnly h)
  | xcoord i d o =>
    obtain ⟨_, ⟨⟩⟩ := withOversample_next h
    exact .inl (s.readsOnly_answer _)
  | ycoord a d =>
    cases h
    exact .inl (s.readsOnly_answer _)

/-- An action that only leaves an answer makes a step that reads only. -/
theorem step_plainRead_readsOnly {s t : State} {a : Action} {rest : List Action} (hp : s.pending = a :: rest)
    (ha : ∀ s1 p, fetch a s1 = .next p → ∃ r, p = (s1.answer r, none)) (h : step s = .next t) :
    (s.startStep rest).ReadsOnly t := by
  obtain ⟨p, hf⟩ := fetch_of_step_next hp h
  obtain ⟨r, rfl⟩ := ha _ p hf
  rw [step_of_fetched_none hp hf] at h
  cases h
  exact State.readsOnly_answer _ r

/-- A step that takes a reader's action reads only, except that RECON's points are left at the ports. -/
theorem step_reader_next {s t : State} {a : Action} {rest : List Action} (hp : s.pending = a :: rest)
    (hr : a.neverStops = false ∨ a = .readHasData) (h : step s = .next t) :
    (s.startStep rest).ReadsOnly t
      ∨ ∃ o ps, a = .call (.recon o) ∧ t = (s.startStep rest).replyPoints ps := by
  cases a with
  | decodeField f =>
    rw [step_decodeField hp] at h
    exact .inl (exec_decodeHeader_readsOnly h)
  | call c =>
    rw [step_call hp] at h
    rcases exec_decodeCall_next h with hro | ⟨o, ps, rfl, hps⟩
    · exact .inl hro
    · exact .inr ⟨o, ps, rfl, hps⟩
  | readSnap n => exact .inl (step_plainRead_readsOnly hp (fun _ _ => fetch_readSnap_next) h)
  | readFrame => exact .inl (step_plainRead_readsOnly hp (fun _ _ => fetch_readFrame_next) h)
  | readHasData => exact .inl (step_plainRead_readsOnly hp (fun _ _ => fetch_readHasData_next) h)
  | poll _ | burst _ | edge _ | setPaused _ | setDeltaX _ | setDeltaY _ | reset =>
    simp [Action.neverStops] at hr

/-! ### The obligations -/

/-- Settles O6, one clause for each action that leads to an instruction. -/
theorem stepRunsDecodedInstruction : Obligations.StepRunsDecodedInstruction :=
  fun _ _ => ⟨fun _ => step_poll, fun _ => step_decodeField, fun _ => step_call, fun _ _ => step_burst⟩

/-- Settles O7: the word is the one fetched, and placing it leaves the context in which it is decoded. -/
theorem placedTableWordRunsNext : Obligations.PlacedTableWordRunsNext :=
  fun s nbits w _ hd =>
    step_of_fetched (s.withFetchWord_pending nbits w) (fetch_actionOf_tableWord nbits w rfl) hd

/-- Settles O57, by the two effects a reader's step can have. -/
theorem readersWriteNothing : Obligations.ReadersWriteNothing := by
  intro s t a rest hp hr h
  rcases step_reader_next hp hr h with hro | ⟨o, ps, rfl, rfl⟩
  · exact ⟨hro.sync, hro.inputs, hro.frames, .inl hro.ports⟩
  · exact ⟨⟨rfl, rfl, rfl, rfl⟩, ⟨rfl, rfl, rfl, rfl, rfl⟩, rfl, .inr ⟨o, ps, rfl, rfl, rfl⟩⟩

end Sys2Proof.Machine
end

section
/-!
PROOFS, 10_state.md, the facts the statements share: runs of bytes in a space, what a stream word runs (41 R140,
R149), and what one step can do to the synchronizer's state.
-/

namespace Sys2Proof.Machine

/-! ### Runs of bytes in one space -/

theorem Memory.readBytes_succ_last (m : Memory) : ∀ n a : Nat,
    m.readBytes a (n + 1) = m.readBytes a n ++ [m.read (a + n)]
  | 0, _ => rfl
  | n + 1, a => by
      rw [Memory.readBytes, Memory.readBytes_succ_last m n (a + 1), Memory.readBytes, List.cons_append,
        Nat.add_right_comm a 1 n, Nat.add_assoc]

/-- A write behind a run of cells leaves the run alone. -/
theorem Memory.readBytes_write_behind (m : Memory) {c : Nat} (b : Byte) : ∀ {n a : Nat}, a + n ≤ c →
    (m.write c b).readBytes a n = m.readBytes a n
  | 0, _, _ => rfl
  | n + 1, a, h => by
      rw [Memory.readBytes, Memory.readBytes, Memory.read_write_other (by omega),
        Memory.readBytes_write_behind m b (by omega)]

/-- A byte stored just behind the first `c` cells extends them by that byte (10 R23). -/
theorem Memory.readBytes_write_next {m : Memory} (hm : m.wf = true) (c : Nat) (b : Byte) :
    (m.write c b).readBytes 0 (c + 1) = m.readBytes 0 c ++ [b] := by
  rw [Memory.readBytes_succ_last, Memory.readBytes_write_behind m b (by omega), Nat.zero_add,
    Memory.read_write_same hm]

/-! ### What `feed` keeps -/

theorem feedAll_concat (bs : List Byte) (b : Byte) (s : State) :
    feedAll (bs ++ [b]) s = feed b (feedAll bs s) :=
  feedAll_append bs [b] s

theorem feed_build (b : Byte) (s : State) : (feed b s).build = s.build := by
  obtain ⟨_, _, _, hbuild, _⟩ := feed_sameInputs b s
  exact hbuild

theorem feedAll_build (bs : List Byte) (s : State) : (feedAll bs s).build = s.build := by
  induction bs generalizing s with
  | nil => rfl
  | cons b bs ih => rw [feedAll_cons, ih, feed_build]

/-- Every byte leaves the buffer in its canonical form: stores are at cells 0 to 136. -/
theorem feed_buf_wf {s : State} (b : Byte) (hw : s.buf.wf = true) : (feed b s).buf.wf = true := by
  rcases feed_cases b s with ⟨_, h⟩ | ⟨_, _, h⟩ | ⟨c, _, _, _, h⟩ | ⟨c, _, _, _, h⟩ <;> rw [h]
  · exact hw
  · exact hw
  · exact Memory.write_wf hw c.isLt
  · exact Memory.write_wf hw (by decide)

theorem feedAll_buf_wf {s : State} (bs : List Byte) (hw : s.buf.wf = true) :
    (feedAll bs s).buf.wf = true := by
  induction bs generalizing s with
  | nil => exact hw
  | cons b bs ih => exact ih (feed_buf_wf b hw)

theorem State.buf_wf_of_memoryCanonical {s : State} (h : s.memoryCanonical = true) : s.buf.wf = true := by
  simp only [State.memoryCanonical, Bool.and_eq_true] at h
  exact h.1

/-! ### What a stream word runs -/

/-- The word of the DATA pattern that a byte has, built again from its free bits (30 R81). -/
def patternByte (b : Byte) : Byte :=
  if bitsOf b 6 1 = 0#1 then byteClear6 (bitsOf b 7 1) (bitsOf b 0 6)
  else if bitsOf b 4 1 = 0#1 then byteClear4 (bitsOf b 7 1) (bitsOf b 5 1) (bitsOf b 0 4)
  else if bitsOf b 3 1 = 0#1 then byteClear3 (bitsOf b 7 1) (bitsOf b 5 1) (bitsOf b 0 3)
  else byteClear2 (bitsOf b 7 1) (bitsOf b 5 1) (bitsOf b 0 2)

theorem patternByte_of_data : ∀ b : Byte, isSync b = false → patternByte b = b := by decide

theorem exec_decodeStore (b : Byte) (s : State) : exec (decodeStore b) s = storeArm (patternByte b) s := by
  unfold decodeStore patternByte
  split_ifs <;> rfl

theorem exec_decodeComplete (b : Byte) (s : State) :
    exec (decodeComplete b) s = completeArm (patternByte b) s := by
  unfold decodeComplete patternByte
  split_ifs <;> rfl

theorem exec_decodeDrop (b : Byte) (s : State) : exec (decodeDrop b) s = dropArm (patternByte b) s := by
  unfold decodeDrop patternByte
  split_ifs <;> rfl

/-- The row that a stream byte is decoded to feeds that byte (41 R140). -/
theorem exec_decodeStream (p : Position) (b : Byte) (s : State) :
    exec (decodeStream p b) s = .next (feed b s) := by
  cases hb : isSync b with
  | true =>
    unfold decodeStream
    rw [if_pos hb, exec_sync, feed_of_sync s hb]
  | false =>
    have hpat := patternByte_of_data b hb
    unfold decodeStream
    rw [if_neg (by simp [hb])]
    cases p with
    | seek => rw [exec_decodeDrop, hpat, dropArm_eq_feed s hb]
    | collect c =>
      dsimp only
      split_ifs
      · rw [exec_decodeStore, hpat, storeArm_eq_feed s hb]
      · rw [exec_decodeComplete, hpat, completeArm_eq_feed s hb]

/-- A FRAME that is read back from a run of bytes feeds that run (30 R97). -/
theorem exec_decodeFrame {bs : List Byte} {i : Instr} (h : decodeFrame bs = some i) (s : State) :
    exec i s = .next (feedAll bs s) := by
  unfold decodeFrame at h
  split at h
  · split_ifs at h with hframe
    obtain ⟨rfl, _⟩ := hframe
    cases h
    rw [exec_frame, frameBytes, List.take_append_drop]
  · cases h

theorem exec_decodeBurst {p : Position} {bs : List Byte} {i : Instr} (h : decodeBurst p bs = .ok i)
    (s : State) : exec i s = .next (feedAll bs s) := by
  unfold decodeBurst at h
  split at h
  · rename_i hf
    cases h
    exact exec_decodeFrame hf s
  · split_ifs at h
    cases h
    exact exec_noise bs s

theorem runEncoded_stream (b : Byte) (s : State) : runEncoded (.stream b) s = .next (feed b s) :=
  exec_decodeStream s.pos b s

/-- Every burst is fed as its bytes in order, whether a row stands for it or none does (41 R149, log 21). -/
theorem runEncoded_burst (bs : List Byte) (s : State) : runEncoded (.burst bs) s = .next (feedAll bs s) := by
  unfold runEncoded
  split
  · rename_i hd
    exact exec_decodeBurst hd s
  · rfl

/-! ### The two kinds of step -/

/-- A fetched word runs in the state the action left, whether it decodes or not. -/
theorem step_eq_runEncoded {s s1 : State} {a : Action} {rest : List Action} {w : Encoded}
    (hp : s.pending = a :: rest) (hf : fetch a (s.startStep rest) = .next (s1, some w)) :
    step s = runEncoded w s1 := by
  rw [step_action hp, hf]
  rfl

/-- What a step does before any byte is fed: the synchronizer's state and the static parameters stay, and no
frame is out yet. -/
structure State.Quiet (s s1 : State) : Prop where
  sync : s.sameSync s1
  build : s1.build = s.build
  frames : s1.out.frames = []

theorem State.quiet_startStep (s : State) (rest : List Action) : s.Quiet (s.startStep rest) :=
  ⟨⟨rfl, rfl, rfl, rfl⟩, rfl, rfl⟩

theorem State.quiet_atEdge (s : State) (rest : List Action) (p : Pins) :
    s.Quiet ((s.startStep rest).atEdge p) :=
  ⟨⟨rfl, rfl, rfl, rfl⟩, rfl, rfl⟩

theorem State.ReadsOnly.quiet {s t : State} {rest : List Action} (h : (s.startStep rest).ReadsOnly t) :
    s.Quiet t := by
  obtain ⟨_, _, _, hbuild, _⟩ := h.inputs
  exact ⟨h.sync, hbuild, h.frames⟩

/-- The next action is a reset. -/
def State.NextResets (s : State) : Prop := ∃ a rest, s.pending = a :: rest ∧ a.isReset = true

/-- A step either feeds some bytes, none for most actions, or resets. -/
def State.FeedsOrResets (s t : State) : Prop :=
  (∃ s1 bs, s.Quiet s1 ∧ t = feedAll bs s1) ∨ (s.NextResets ∧ ∃ s1, s.Quiet s1 ∧ t = s1.applyReset)

theorem State.Quiet.feeds {s s1 : State} (h : s.Quiet s1) (bs : List Byte) :
    s.FeedsOrResets (feedAll bs s1) :=
  .inl ⟨s1, bs, h, rfl⟩

theorem State.Quiet.feedsNothing {s t : State} (h : s.Quiet t) : s.FeedsOrResets t := h.feeds []

theorem step_poll_feedsOrResets {s t : State} {o : Option Byte} {rest : List Action}
    (hp : s.pending = .poll o :: rest) (h : step s = .next t) : s.FeedsOrResets t := by
  have hq := s.quiet_startStep rest
  cases o with
  | none =>
    rw [step_of_fetched_none hp rfl] at h
    cases h
    exact hq.feedsNothing
  | some b =>
    cases hpause : (s.startStep rest).paused with
    | false =>
      rw [step_eq_runEncoded hp (fetch_poll_of_not_paused b hpause), runEncoded_stream] at h
      cases h
      exact hq.feeds [b]
    | true =>
      rw [step_of_fetched_none hp (by rw [fetch, hpause]; rfl)] at h
      cases h
      exact hq.feedsNothing

theorem step_burst_feedsOrResets {s t : State} {bs : List Byte} {rest : List Action}
    (hp : s.pending = .burst bs :: rest) (h : step s = .next t) : s.FeedsOrResets t := by
  have hq := s.quiet_startStep rest
  cases hpause : (s.startStep rest).paused with
  | false =>
    rw [step_eq_runEncoded hp (fetch_burst_of_not_paused bs hpause), runEncoded_burst] at h
    cases h
    exact hq.feeds bs
  | true =>
    rw [step_of_fetched_none hp (by rw [fetch, hpause]; rfl)] at h
    cases h
    exact hq.feedsNothing

theorem step_edge_feedsOrResets {s t : State} {p : Pins} {rest : List Action}
    (hp : s.pending = .edge p :: rest) (h : step s = .next t) : s.FeedsOrResets t := by
  have hq := s.quiet_atEdge rest p
  rcases fetchEdge_cases p (s.startStep rest) with ⟨hr, hf⟩ | ⟨_, _, _, hf⟩ | ⟨_, _, hf⟩
  · rw [step_of_fetched_none hp (congrArg _ hf)] at h
    cases h
    exact .inr ⟨⟨_, rest, hp, hr⟩, _, hq, rfl⟩
  · rw [step_eq_runEncoded hp (congrArg _ hf), runEncoded_stream] at h
    cases h
    exact hq.feeds [p.inByte]
  · rw [step_of_fetched_none hp (congrArg _ hf)] at h
    cases h
    exact hq.feedsNothing

/-- 00 R7 (c): a reader's step feeds nothing. -/
theorem step_reader_feedsOrResets {s t : State} {a : Action} {rest : List Action}
    (hp : s.pending = a :: rest) (hr : a.neverStops = false ∨ a = .readHasData) (h : step s = .next t) :
    s.FeedsOrResets t := by
  rcases step_reader_next hp hr h with hro | ⟨_, _, _, rfl⟩
  · exact hro.quiet.feedsNothing
  · exact State.Quiet.feedsNothing ⟨⟨rfl, rfl, rfl, rfl⟩, rfl, rfl⟩

/-- An action that leads to no instruction and only changes cells outside the synchronizer feeds nothing. -/
theorem step_write_feedsOrResets {s s1 t : State} {a : Action} {rest : List Action}
    (hp : s.pending = a :: rest) (hf : fetch a (s.startStep rest) = .next (s1, none)) (hq : s.Quiet s1)
    (h : step s = .next t) : s.FeedsOrResets t := by
  rw [step_of_fetched_none hp hf] at h
  cases h
  exact hq.feedsNothing

/-- What one step can do: feed bytes in a state the action left quiet, or reset one. -/
theorem step_feedsOrResets {s t : State} (h : step s = .next t) : s.FeedsOrResets t := by
  cases hp : s.pending with
  | nil =>
    rw [step_idle hp] at h
    cases h
    exact (s.quiet_startStep []).feedsNothing
  | cons a rest =>
    cases a with
    | poll o => exact step_poll_feedsOrResets hp h
    | burst bs => exact step_burst_feedsOrResets hp h
    | edge p => exact step_edge_feedsOrResets hp h
    | setPaused _ | setDeltaX _ | setDeltaY _ =>
      exact step_write_feedsOrResets hp rfl ⟨⟨rfl, rfl, rfl, rfl⟩, rfl, rfl⟩ h
    | decodeField _ | call _ | readSnap _ | readFrame => exact step_reader_feedsOrResets hp (.inl rfl) h
    | readHasData => exact step_reader_feedsOrResets hp (.inr rfl) h
    | reset =>
      rw [step_of_fetched_none hp rfl] at h
      cases h
      exact .inr ⟨⟨_, rest, hp, rfl⟩, _, s.quiet_startStep rest, rfl⟩

/-! ### Completions -/

theorem State.collecting_of_pos {s : State} {c : Fin 137} (h : s.pos = .collect c) : s.collecting = true := by
  simp [State.collecting, h]

theorem State.collecting_eq_of_pos {s t : State} (h : t.pos = s.pos) : t.collecting = s.collecting := by
  simp [State.collecting, h]

/-- No frame completed on the way: nothing that a completion writes has changed, and a collection under way goes
on (10 R21, R26, R27). -/
structure State.NoCompletion (s t : State) : Prop where
  frames : t.out.frames = s.out.frames
  snap : t.snap = s.snap
  hasData : t.hasData = s.hasData
  collecting : s.collecting = true → t.collecting = true

/-- The last frame put out is the one in the snapshot, and the snapshot counts (20 R55). -/
structure State.ShowsLastFrame (t : State) : Prop where
  last : t.out.frames.getLast? = some t.snapFrame
  hasData : t.hasData = true

theorem State.ShowsLastFrame.frames_ne_nil {t : State} (h : t.ShowsLastFrame) : t.out.frames ≠ [] := by
  intro hnil
  simpa [hnil] using h.last

theorem State.NoCompletion.refl (s : State) : s.NoCompletion s := ⟨rfl, rfl, rfl, id⟩

theorem State.NoCompletion.trans {s t u : State} (h : s.NoCompletion t) (h' : t.NoCompletion u) :
    s.NoCompletion u :=
  ⟨h'.frames.trans h.frames, h'.snap.trans h.snap, h'.hasData.trans h.hasData,
    h'.collecting ∘ h.collecting⟩

theorem State.ShowsLastFrame.of_noCompletion {t u : State} (h : t.ShowsLastFrame) (h' : t.NoCompletion u) :
    u.ShowsLastFrame where
  last := by rw [h'.frames, h.last, State.snapFrame, State.snapFrame, h'.snap]
  hasData := h'.hasData.trans h.hasData

/-- Only the arm of the 137th byte completes a frame, and it shows the frame it returns (41 R144). -/
theorem feed_completion (b : Byte) (s : State) : s.NoCompletion (feed b s) ∨ (feed b s).ShowsLastFrame := by
  rcases feed_cases b s with ⟨_, h⟩ | ⟨_, hseek, h⟩ | ⟨c, _, _, hc, h⟩ | ⟨c, _, _, _, h⟩ <;> rw [h]
  · exact .inl ⟨rfl, rfl, rfl, fun _ => rfl⟩
  · exact .inl ⟨rfl, rfl, rfl, id⟩
  · exact .inl ⟨rfl, rfl, rfl, fun _ => State.collecting_of_pos (positionAfter_of_lt hc)⟩
  · exact .inr ⟨by simp [State.snapFrame], rfl⟩

theorem feedAll_completion (bs : List Byte) (s : State) :
    s.NoCompletion (feedAll bs s) ∨ (feedAll bs s).ShowsLastFrame := by
  induction bs generalizing s with
  | nil => exact .inl (State.NoCompletion.refl s)
  | cons b bs ih =>
    rcases ih (feed b s) with hrest | hshows
    · rcases feed_completion b s with hfirst | hshows
      · exact .inl (hfirst.trans hrest)
      · exact .inr (hshows.of_noCompletion hrest)
    · exact .inr hshows

/-- What one step can do to what the synchronizer shows: nothing; complete frames; or reset it. -/
theorem step_completion {s t : State} (h : step s = .next t) :
    (t.out.frames = [] ∧ t.snap = s.snap ∧ t.hasData = s.hasData ∧ (s.collecting = true → t.collecting = true))
    ∨ t.ShowsLastFrame
    ∨ (s.NextResets ∧ t.out.frames = [] ∧ t.hasData = false) := by
  rcases step_feedsOrResets h with ⟨s1, bs, hq, rfl⟩ | ⟨hr, s1, hq, rfl⟩
  · obtain ⟨hpos, _, hsnap, hdata⟩ := hq.sync
    rcases feedAll_completion bs s1 with hn | hshows
    · exact .inl ⟨hn.frames.trans hq.frames, hn.snap.trans hsnap, hn.hasData.trans hdata,
        fun hc => hn.collecting ((State.collecting_eq_of_pos hpos).trans hc)⟩
    · exact .inr (.inl hshows)
  · exact .inr (.inr ⟨hr, hq.frames, rfl⟩)

theorem Action.eq_of_isReset {a : Action} (h : a.isReset = true) :
    a = .reset ∨ ∃ p : Pins, p.rst = true ∧ a = .edge p := by
  cases a with
  | reset => exact .inl rfl
  | edge p => exact .inr ⟨p, h, rfl⟩
  | poll _ | burst _ | setPaused _ | setDeltaX _ | setDeltaY _ | decodeField _ | call _ | readSnap _ | readFrame
  | readHasData => cases h

/-- The next action is a reset exactly as 70 R270 and R272 name it. -/
theorem State.NextResets.pending {s : State} (h : s.NextResets) :
    ∃ rest, s.pending = .reset :: rest ∨ ∃ p : Pins, p.rst = true ∧ s.pending = .edge p :: rest := by
  obtain ⟨a, rest, hp, ha⟩ := h
  rcases Action.eq_of_isReset ha with rfl | ⟨p, hr, rfl⟩
  · exact ⟨rest, .inl hp⟩
  · exact ⟨rest, .inr ⟨p, hr, hp⟩⟩

end Sys2Proof.Machine
end

section
/-!
PROOFS, 10_state.md R25: the shift-register build runs in lockstep with the indexed array.
-/

namespace Sys2Proof.Machine

/-! ### The arms of `shiftFeed` -/

theorem shiftFeed_of_sync {b : Byte} (t : ShiftSync) (h : isSync b = true) :
    shiftFeed b t = ({ t with pos := .collect 0 }, none) := by
  simp [shiftFeed, h]

theorem shiftFeed_at_seek {b : Byte} {t : ShiftSync} (h : isSync b = false) (hp : t.pos = .seek) :
    shiftFeed b t = (t, none) := by
  simp [shiftFeed, h, hp]

theorem shiftFeed_at_collect {b : Byte} {t : ShiftSync} {c : Fin 137} (h : isSync b = false)
    (hp : t.pos = .collect c) (hc : c.val < 136) :
    shiftFeed b t = ({ t with pos := positionAfter c, stages := shiftIn b t.stages }, none) := by
  simp [shiftFeed, h, hp, hc]

theorem shiftFeed_at_last {b : Byte} {t : ShiftSync} {c : Fin 137} (h : isSync b = false)
    (hp : t.pos = .collect c) (hc : ¬ c.val < 136) :
    shiftFeed b t = (⟨.seek, shiftIn b t.stages, shiftIn b t.stages, true⟩, some (shiftIn b t.stages)) := by
  simp [shiftFeed, h, hp, hc]

/-! ### One shift -/

theorem length_shiftIn {b : Byte} {stages : List Byte} (h : stages.length = 137) :
    (shiftIn b stages).length = 137 := by
  simp [shiftIn, h]

/-- After a shift the youngest `c + 1` stages are the youngest `c` of before and the new byte. -/
theorem drop_shiftIn {b : Byte} {stages : List Byte} {c : Nat} (h : stages.length = 137) (hc : c < 137) :
    (shiftIn b stages).drop (137 - (c + 1)) = stages.drop (137 - c) ++ [b] := by
  have hstages : 1 + (137 - (c + 1)) = 137 - c := by omega
  rw [shiftIn, List.drop_append_of_le_length (by simp [h]), List.drop_drop, hstages]

/-! ### Lockstep -/

/-- The two builds after the same bytes, with `fs` the frames returned since `base`: inside a frame the
youngest stages hold what the first cells hold, whatever the older ones hold. -/
structure Lockstep (base : List Frame) (s : State) (t : ShiftSync) (fs : List Frame) : Prop where
  wf : s.buf.wf = true
  stages : t.stages.length = 137
  pos : s.pos = t.pos
  hasData : s.hasData = t.hasData
  bytes : ∀ c : Fin 137, t.pos = .collect c → s.buf.readBytes 0 c = t.stages.drop (137 - c)
  frames : s.out.frames = base ++ fs
  snap : fs ≠ [] → s.snapFrame = t.snap

variable {base fs : List Frame} {s : State} {t : ShiftSync} {b : Byte}

theorem Lockstep.sync (h : Lockstep base s t fs) :
    Lockstep base (feedSync s) { t with pos := .collect 0 } fs where
  wf := h.wf
  stages := h.stages
  pos := rfl
  hasData := h.hasData
  bytes := by
    rintro _ ⟨⟩
    exact (List.drop_eq_nil_of_le h.stages.le).symm
  frames := h.frames
  snap := h.snap

theorem Lockstep.drop (h : Lockstep base s t fs) : Lockstep base (dropByte b s) t fs where
  wf := h.wf
  stages := h.stages
  pos := h.pos
  hasData := h.hasData
  bytes := h.bytes
  frames := h.frames
  snap := h.snap

/-- A store at cell `c` and a shift extend the bytes collected so far by the same byte. -/
theorem Lockstep.bytes_store (h : Lockstep base s t fs) {c : Fin 137} (hp : t.pos = .collect c) :
    (s.buf.write c b).readBytes 0 (c + 1) = (shiftIn b t.stages).drop (137 - (c + 1)) := by
  rw [Memory.readBytes_write_next h.wf, drop_shiftIn h.stages c.isLt, h.bytes c hp]

theorem Lockstep.store (h : Lockstep base s t fs) {c : Fin 137} (hp : t.pos = .collect c) (hc : c.val < 136) :
    Lockstep base (storeByte b c s) { t with pos := positionAfter c, stages := shiftIn b t.stages } fs where
  wf := Memory.write_wf h.wf c.isLt
  stages := length_shiftIn h.stages
  pos := rfl
  hasData := h.hasData
  bytes := by
    rw [positionAfter_of_lt hc]
    rintro _ ⟨⟩
    exact h.bytes_store hp
  frames := h.frames
  snap := h.snap

theorem Lockstep.complete (h : Lockstep base s t fs) (hp : t.pos = .collect 136) :
    Lockstep base (completeFrame b s) ⟨.seek, shiftIn b t.stages, shiftIn b t.stages, true⟩
      (fs ++ [shiftIn b t.stages]) := by
  have hframe : (s.buf.write 136 b).readBytes 0 137 = shiftIn b t.stages := h.bytes_store hp
  exact
    { wf := Memory.write_wf h.wf (by decide)
      stages := length_shiftIn h.stages
      pos := rfl
      hasData := rfl
      bytes := by rintro _ ⟨⟩
      frames := by simp [h.frames, hframe]
      snap := fun _ => hframe }

/-- One byte takes both builds through the same arm. -/
theorem Lockstep.feed (h : Lockstep base s t fs) (b : Byte) :
    Lockstep base (feed b s) (shiftFeed b t).1 (fs ++ (shiftFeed b t).2.toList) := by
  rcases feed_cases b s with ⟨hb, hf⟩ | ⟨hb, hp, hf⟩ | ⟨c, hb, hp, hc, hf⟩ | ⟨c, hb, hp, hc, hf⟩ <;> rw [hf]
  · rw [shiftFeed_of_sync t hb]
    simpa using h.sync
  · rw [shiftFeed_at_seek hb (h.pos.symm.trans hp)]
    simpa using h.drop
  · have ht := h.pos.symm.trans hp
    rw [shiftFeed_at_collect hb ht hc]
    simpa using h.store ht hc
  · have ht := h.pos.symm.trans hp
    obtain rfl : c = 136 := Fin.ext hc
    rw [shiftFeed_at_last hb ht (by decide)]
    exact h.complete ht

theorem Lockstep.feedAll (h : Lockstep base s t fs) (bs : List Byte) :
    Lockstep base (feedAll bs s) (shiftFeedAll bs t).1 (fs ++ (shiftFeedAll bs t).2) := by
  induction bs generalizing s t fs with
  | nil => simpa [shiftFeedAll] using h
  | cons b bs ih => simpa [shiftFeedAll] using ih (h.feed b)

/-- At `SEEK` the builds start in lockstep, whatever the cells and the stages hold. -/
theorem lockstep_of_seek (hw : s.buf.wf = true) (hs : s.pos = .seek) (ht : t.pos = .seek)
    (hlen : t.stages.length = 137) (hd : t.hasData = s.hasData) : Lockstep s.out.frames s t [] where
  wf := hw
  stages := hlen
  pos := hs.trans ht.symm
  hasData := hd.symm
  bytes := fun c hc => by simp [ht] at hc
  frames := (List.append_nil _).symm
  snap := fun hne => absurd rfl hne

end Sys2Proof.Machine
end

section
/-!
PROOFS, 10_state.md: the statements on the state of the unit.
-/

namespace Sys2Proof.Machine

/-! ### The buffer since the last marker -/

/-- The stored cells of a collection are the bytes fed since its marker: each byte restarts the collection,
extends it, or leaves it (10 R23). -/
theorem buf_since_marker {s : State} (hw : s.buf.wf = true) (hs : s.pos = .seek) (bs : List Byte) :
    ∀ c, (feedAll bs s).pos = .collect c →
      ∃ before m, bs = before ++ m :: (feedAll bs s).buf.readBytes 0 c ∧ isSync m = true
        ∧ ((feedAll bs s).buf.readBytes 0 c).all isData = true := by
  induction bs using List.reverseRecOn with
  | nil => simp [hs]
  | append_singleton bs b ih =>
    have hwf := feedAll_buf_wf bs hw
    rw [feedAll_concat]
    rcases feed_cases b (feedAll bs s) with ⟨hb, hf⟩ | ⟨_, hp, hf⟩ | ⟨c, hb, hp, hc, hf⟩ | ⟨c, _, _, _, hf⟩ <;>
      rw [hf]
    · rintro _ ⟨⟩
      exact ⟨bs, b, rfl, hb, rfl⟩
    · simp [hp]
    · obtain ⟨before, m, hbs, hm, hdata⟩ := ih c hp
      rw [storeByte_pos, positionAfter_of_lt hc, storeByte_buf]
      rintro _ ⟨⟩
      refine ⟨before, m, ?_, hm, ?_⟩ <;> rw [Memory.readBytes_write_next hwf]
      · rw [← List.cons_append, ← List.append_assoc, ← hbs]
      · simp [hdata, isData, hb]
    · simp

/-- Settles O20, from the run of cells that `buf_since_marker` names. -/
theorem bufferHoldsBytesSinceMarker : Obligations.BufferHoldsBytesSinceMarker := by
  intro s bs c hcan hs hc
  obtain ⟨before, m, hbs, hm, hdata⟩ :=
    buf_since_marker (State.buf_wf_of_memoryCanonical hcan) hs bs c hc
  refine ⟨before, m, _, hbs, hm, hdata, Memory.readBytes_length _ _ _, fun k hk => ?_⟩
  rw [Memory.readBytes_getElem? _ _ _ _ hk, Nat.zero_add]

/-! ### The shift register -/

/-- Settles O24: the two builds stay in lockstep, with the outputs kept and with the outputs emptied. -/
theorem shiftRegisterBuildIsIndistinguishable : Obligations.ShiftRegisterBuildIsIndistinguishable := by
  intro s t bs hcan hs ht hlen hd
  have hw := State.buf_wf_of_memoryCanonical hcan
  have hkept := (lockstep_of_seek hw hs ht hlen hd).feedAll bs
  have hemptied : Lockstep [] { s with out := Output.empty } t [] :=
    lockstep_of_seek (s := { s with out := Output.empty }) hw hs ht hlen hd
  have hframes : framesOf bs s = (shiftFeedAll bs t).2 := (hemptied.feedAll bs).frames
  refine ⟨hframes, hkept.pos, hkept.hasData, fun hne => hkept.snap ?_⟩
  rwa [hframes] at hne

/-! ### What a step can change -/

/-- Settles O53, by what a step can do to the snapshot. -/
theorem snapshotChangesOnlyByCompletion : Obligations.SnapshotChangesOnlyByCompletion := by
  intro s t h
  rcases step_completion h with ⟨hf, hsnap, _, _⟩ | hshows | ⟨⟨a, rest, hp, ha⟩, hf, _⟩
  · exact ⟨fun _ _ => hsnap, fun hne => absurd hf hne⟩
  · exact ⟨fun _ hf => absurd hf hshows.frames_ne_nil, fun _ => ⟨hshows.last, hshows.hasData⟩⟩
  · refine ⟨fun hno => ?_, fun hne => absurd hf hne⟩
    simp [hno a rest hp] at ha

/-- Settles O54, by what a step can do to `hasData`. -/
theorem hasDataFollowsCompletionAndReset : Obligations.HasDataFollowsCompletionAndReset := by
  intro s t h
  rcases step_completion h with ⟨_, _, hd, _⟩ | hshows | ⟨hr, _, hd⟩
  · exact ⟨by simp +contextual [hd], by simp +contextual [hd]⟩
  · exact ⟨fun _ _ => hshows.frames_ne_nil, by simp [hshows.hasData]⟩
  · exact ⟨by simp [hd], fun _ _ => hr.pending⟩

/-- Settles O55, by what a step can do to a collection under way. -/
theorem collectingEndsOnlyByCompletionOrReset : Obligations.CollectingEndsOnlyByCompletionOrReset := by
  intro s t h hs ht
  rcases step_completion h with ⟨_, _, _, hc⟩ | hshows | ⟨hr, _, _⟩
  · simp [hc hs] at ht
  · exact .inl hshows.frames_ne_nil
  · exact .inr hr.pending

/-- Settles O58: neither feeding bytes nor a reset writes the build. -/
theorem buildNeverChanges : Obligations.BuildNeverChanges := by
  intro s t h
  rcases step_feedsOrResets h with ⟨s1, bs, hq, rfl⟩ | ⟨_, s1, hq, rfl⟩
  · rw [feedAll_build, hq.build]
  · exact hq.build

/-- Settles O10: each of the three writes is the whole step. -/
theorem userInputWritesOnlyItsCells : Obligations.UserInputWritesOnlyItsCells :=
  fun _ _ => ⟨fun _ hp => step_of_fetched_none hp rfl, fun _ hp => step_of_fetched_none hp rfl,
    fun _ hp => step_of_fetched_none hp rfl⟩

/-! ### No reader before data -/

/-- Each field of the header is behind the gate of `hasData`, whatever the byte. -/
theorem exec_decodeHeader_of_no_data {s : State} (h : s.hasData = false) (f : HeaderField) (b : Byte) :
    exec (decodeHeader f b) s = .refused .noFrameYet := by
  cases f with
  | coupling => exact (exec_decodeCoupling b s).trans (withFrame_of_no_data _ h)
  | range => exact (exec_decodeRange b s).trans (withFrame_of_no_data _ h)
  | timebase => exact (exec_decodeTimebase b s).trans (withFrame_of_no_data _ h)
  | trigger => exact (exec_decodeTrigger b s).trans (withFrame_of_no_data _ h)

/-- An action whose fetch is refused refuses the step. -/
theorem step_of_fetch_refused {s : State} {a : Action} {rest : List Action} {r : Refusal}
    (hp : s.pending = a :: rest) (hf : fetch a (s.startStep rest) = .refused r) : step s = .refused r := by
  rw [step_action hp, hf]
  rfl

/-- Settles O33: every reader of the snapshot is behind the gate of `hasData`. -/
theorem noSnapshotReaderBeforeData : Obligations.NoSnapshotReaderBeforeData := by
  intro s h
  exact ⟨exec_decodeHeader_of_no_data h,
    (exec_decode s).trans (withFrame_of_no_data _ h),
    fun o => (exec_recon o s).trans (withFrame_of_no_data _ h),
    fun i o => (exec_reconAmplitude i o s).trans (withFrame_of_no_data _ h),
    fun _ _ hp => step_of_fetch_refused hp (if_pos h),
    fun _ hp => step_of_fetch_refused hp (if_pos h)⟩

end Sys2Proof.Machine
end

section
/-!
PROOFS, 20_memory.md: what every step keeps of the two byte spaces (R50, R51, R63), and the caller's plain reads
(R55, R56, R59).
-/

namespace Sys2Proof.Machine

/-! ### Properties that stores keep

The unit writes a byte space in two ways only: a DATA byte is stored at one of its 137 indices, and a completion
copies `BUF` to `SNAP`.  So a property of one space that such stores keep holds of both spaces after every step
if it held before. -/

/-- A store of a DATA byte inside the space keeps the property (20 R51, R63). -/
def Memory.KeptByStores (P : Memory → Prop) : Prop :=
  ∀ {m : Memory} (c : Fin 137) {b : Byte}, isSync b = false → P m → P (m.write c.val b)

/-- `BUF` and `SNAP` both have the property. -/
structure State.BothSpaces (P : Memory → Prop) (s : State) : Prop where
  buf : P s.buf
  snap : P s.snap

theorem State.bothSpaces_iff {P : Memory → Prop} {s : State} : s.BothSpaces P ↔ P s.buf ∧ P s.snap :=
  ⟨fun h => ⟨h.buf, h.snap⟩, fun ⟨hbuf, hsnap⟩ => ⟨hbuf, hsnap⟩⟩

theorem State.BothSpaces.of_sameSync {P : Memory → Prop} {s t : State} (h : s.BothSpaces P)
    (hst : s.sameSync t) : t.BothSpaces P := by
  obtain ⟨_, hbuf, hsnap, _⟩ := hst
  exact ⟨hbuf ▸ h.buf, hsnap ▸ h.snap⟩

/-- The four arms of `feed`: two write no space, one stores in `BUF`, one stores there and copies it to `SNAP`
(41 R140). -/
theorem State.BothSpaces.feed {P : Memory → Prop} (hP : Memory.KeptByStores P) {s : State}
    (h : s.BothSpaces P) (b : Byte) : (feed b s).BothSpaces P := by
  rcases feed_cases b s with ⟨_, hf⟩ | ⟨_, _, hf⟩ | ⟨c, hb, _, _, hf⟩ | ⟨_, hb, _, _, hf⟩ <;> rw [hf]
  · exact ⟨h.buf, h.snap⟩
  · exact ⟨h.buf, h.snap⟩
  · exact ⟨hP c hb h.buf, h.snap⟩
  · have hstored : P (s.buf.write 136 b) := hP 136 hb h.buf
    exact ⟨hstored, hstored⟩

theorem State.BothSpaces.feedAll {P : Memory → Prop} (hP : Memory.KeptByStores P) {s : State}
    (h : s.BothSpaces P) (bs : List Byte) : (feedAll bs s).BothSpaces P := by
  induction bs generalizing s with
  | nil => exact h
  | cons b bs ih => exact ih (h.feed hP b)

/-- A step feeds bytes or resets, and a reset writes neither space (70 R270, log 19). -/
theorem State.BothSpaces.step {P : Memory → Prop} (hP : Memory.KeptByStores P) {s t : State}
    (h : s.BothSpaces P) (hst : step s = .next t) : t.BothSpaces P := by
  rcases step_feedsOrResets hst with ⟨s1, bs, hq, rfl⟩ | ⟨_, s1, hq, rfl⟩
  · exact (h.of_sameSync hq.sync).feedAll hP bs
  · obtain ⟨hbuf, hsnap⟩ := h.of_sameSync hq.sync
    exact ⟨hbuf, hsnap⟩

/-- Right after reset neither space lists a cell (log 1). -/
theorem State.bothSpaces_reset {P : Memory → Prop} (h : P []) : State.reset.BothSpaces P := ⟨h, h⟩

/-! ### The two invariants -/

/-- The space lists no byte of the SYNC class (20 R63). -/
def Memory.OnlyData (m : Memory) : Prop := ∀ cell ∈ m, isData cell.2 = true

theorem Memory.keptByStores_wf : Memory.KeptByStores fun m => m.wf = true :=
  fun c _ _ hm => Memory.write_wf hm c.isLt

/-- After a store each listed byte was listed before or is the DATA byte stored. -/
theorem Memory.keptByStores_onlyData : Memory.KeptByStores Memory.OnlyData := by
  intro m c b hb hm cell hcell
  rcases Memory.mem_write hcell with hold | rfl
  · exact hm cell hold
  · simp [isData, hb]

theorem State.memoryCanonical_iff {s : State} :
    s.memoryCanonical = true ↔ s.BothSpaces fun m => m.wf = true := by
  rw [State.memoryCanonical, Bool.and_eq_true, State.bothSpaces_iff]

theorem State.holdsOnlyData_iff {s : State} : s.holdsOnlyData = true ↔ s.BothSpaces Memory.OnlyData := by
  rw [State.holdsOnlyData, Bool.and_eq_true, List.all_eq_true, List.all_eq_true, State.bothSpaces_iff]
  rfl

/-- Settles O50: a store inside the space keeps the canonical form. -/
theorem stepKeepsMemoryCanonical : Obligations.StepKeepsMemoryCanonical :=
  fun _ _ hs hst =>
    State.memoryCanonical_iff.mpr ((State.memoryCanonical_iff.mp hs).step Memory.keptByStores_wf hst)

/-- Settles O52: only DATA bytes are stored. -/
theorem stepKeepsMarkersOutOfMemory : Obligations.StepKeepsMarkersOutOfMemory :=
  fun _ _ hs hst =>
    State.holdsOnlyData_iff.mpr ((State.holdsOnlyData_iff.mp hs).step Memory.keptByStores_onlyData hst)

/-- Settles O51, the base case of O50 and O52: a space that lists no cell meets both invariants. -/
theorem resetMemoryIsCanonicalWithoutMarkers : Obligations.ResetMemoryIsCanonicalWithoutMarkers :=
  ⟨State.memoryCanonical_iff.mpr (State.bothSpaces_reset rfl),
    State.holdsOnlyData_iff.mpr (State.bothSpaces_reset (List.forall_mem_nil _))⟩

/-! ### The caller's plain reads -/

theorem fetch_readSnap_of_data {s : State} (n : Fin 137) (h : s.hasData = true) :
    fetch (.readSnap n) s = .next (s.answer (.byte (s.snap.read n.val)), none) := by
  simp [fetch, h]

theorem fetch_readFrame_of_data {s : State} (h : s.hasData = true) :
    fetch .readFrame s = .next (s.answer (.frame s.snapFrame), none) := by
  simp [fetch, h]

/-- The frame the caller reads lists the cells of the snapshot in increasing index (R10 item 4, 20 R59 (c)). -/
theorem State.snapFrame_getElem? (s : State) {k : Nat} (h : k < 137) :
    s.snapFrame[k]? = some (s.snap.read k) := by
  rw [State.snapFrame, Memory.readBytes_getElem? _ _ _ _ h, Nat.zero_add]

/-- Settles O34: each plain read is the whole step and leaves nothing but its answer. -/
theorem callerReadsTheSnapshot : Obligations.CallerReadsTheSnapshot := by
  intro s rest
  refine ⟨fun hd n hp => ?_, fun hd hp => ⟨s.snapFrame, ?_, ?_, ?_⟩, fun hp => ?_⟩
  · exact step_of_fetched_none hp (fetch_readSnap_of_data n hd)
  · exact step_of_fetched_none hp (fetch_readFrame_of_data hd)
  · exact Memory.readBytes_length s.snap Config.frameLen 0
  · exact fun _ hk => s.snapFrame_getElem? hk
  · exact step_of_fetched_none hp rfl

end Sys2Proof.Machine
end

section
/-!
PROOFS, 30_encoding.md, what decoding and encoding share: the classes of a byte (R80, R81), the fields of a byte as
numbers, and the DATA patterns apart from the arm that the position chooses (41 R140).
-/

namespace Sys2Proof

/-! ### The classes of a byte -/

theorem isData_iff {b : Byte} : isData b = true ↔ isSync b = false := by
  rw [isData, Bool.not_eq_true']

theorem isSync_iff_mask {b : Byte} : isSync b = true ↔ b &&& 0x5C#8 = 0x5C#8 :=
  beq_iff_eq

/-- The mask of `SYNC` has the bits 6, 4, 3 and 2. -/
theorem mask_eq_iff_bits : ∀ b : Byte, b &&& 0x5C#8 = 0x5C#8 ↔
    b.getLsbD 6 = true ∧ b.getLsbD 4 = true ∧ b.getLsbD 3 = true ∧ b.getLsbD 2 = true := by
  decide

/-! ### The fields of a byte as numbers -/

theorem toNat_bitsOf (b : Byte) (lo n : Nat) : (bitsOf b lo n).toNat = b.toNat / 2 ^ lo % 2 ^ n := by
  rw [bitsOf, BitVec.extractLsb'_toNat, Nat.shiftRight_eq_div_pow]

theorem bitsOf_eq_iff {b : Byte} {lo n : Nat} {v : BitVec n} :
    bitsOf b lo n = v ↔ b.toNat / 2 ^ lo % 2 ^ n = v.toNat := by
  rw [← BitVec.toNat_inj, toNat_bitsOf]

theorem toNat_append_eq {v w : Nat} (hi : BitVec v) (lo : BitVec w) :
    (hi ++ lo).toNat = hi.toNat * 2 ^ w + lo.toNat := by
  rw [BitVec.toNat_append, ← Nat.shiftLeft_add_eq_or_of_lt lo.isLt, Nat.shiftLeft_eq]

/-! ### The DATA patterns (30 R81) -/

/-- A pattern of the DATA class with its free bits. -/
inductive DataPattern where
  | clear6 (a : BitVec 1) (b : BitVec 6)
  | clear4 (a b : BitVec 1) (c : BitVec 4)
  | clear3 (a b : BitVec 1) (c : BitVec 3)
  | clear2 (a b : BitVec 1) (c : BitVec 2)

namespace DataPattern

/-- The byte of a pattern. -/
def byte : DataPattern → Byte
  | clear6 a b => byteClear6 a b
  | clear4 a b c => byteClear4 a b c
  | clear3 a b c => byteClear3 a b c
  | clear2 a b c => byteClear2 a b c

/-- The pattern of a byte: the highest of the bits 6, 4, 3 and 2 that is clear. -/
def ofByte (b : Byte) : DataPattern :=
  if bitsOf b 6 1 = 0#1 then clear6 (bitsOf b 7 1) (bitsOf b 0 6)
  else if bitsOf b 4 1 = 0#1 then clear4 (bitsOf b 7 1) (bitsOf b 5 1) (bitsOf b 0 4)
  else if bitsOf b 3 1 = 0#1 then clear3 (bitsOf b 7 1) (bitsOf b 5 1) (bitsOf b 0 3)
  else clear2 (bitsOf b 7 1) (bitsOf b 5 1) (bitsOf b 0 2)

/-- The DATA.STORE row of a pattern. -/
def storeRow : DataPattern → Instr
  | clear6 a b => .dataStoreClear6 a b
  | clear4 a b c => .dataStoreClear4 a b c
  | clear3 a b c => .dataStoreClear3 a b c
  | clear2 a b c => .dataStoreClear2 a b c

/-- The DATA.COMPLETE row of a pattern. -/
def completeRow : DataPattern → Instr
  | clear6 a b => .dataCompleteClear6 a b
  | clear4 a b c => .dataCompleteClear4 a b c
  | clear3 a b c => .dataCompleteClear3 a b c
  | clear2 a b c => .dataCompleteClear2 a b c

/-- The DATA.DROP row of a pattern. -/
def dropRow : DataPattern → Instr
  | clear6 a b => .dataDropClear6 a b
  | clear4 a b c => .dataDropClear4 a b c
  | clear3 a b c => .dataDropClear3 a b c
  | clear2 a b c => .dataDropClear2 a b c

theorem isSync_byte : ∀ p : DataPattern, isSync p.byte = false
  | clear6 a b => Machine.isSync_byteClear6 a b
  | clear4 a b c => Machine.isSync_byteClear4 a b c
  | clear3 a b c => Machine.isSync_byteClear3 a b c
  | clear2 a b c => Machine.isSync_byteClear2 a b c

/-- The bits a pattern fixes are the ones that tell it from the others, and its free bits are its own.  (The widths
stay sums under `simp`, so that a field of the byte is seen as a part of the concatenation.) -/
theorem ofByte_byte (p : DataPattern) : ofByte p.byte = p := by
  cases p <;>
    simp (disch := decide) [ofByte, byte, byteClear6, byteClear4, byteClear3, byteClear2, bitsOf,
      BitVec.extractLsb'_append_eq_of_le, BitVec.extractLsb'_append_eq_of_add_le, -Nat.reduceAdd]

theorem byte_ofByte {b : Byte} (h : isSync b = false) : (ofByte b).byte = b := by
  refine Eq.trans ?_ (Machine.patternByte_of_data b h)
  unfold ofByte Machine.patternByte
  split_ifs <;> rfl

/-! ### The row that the position chooses for a DATA byte (41 R140) -/

/-- The row of a DATA pattern at a position. -/
def rowAt (q : DataPattern) : Position → Instr
  | .collect c => if c.val < 136 then q.storeRow else q.completeRow
  | .seek => q.dropRow

theorem rowAt_collect (q : DataPattern) (c : Fin 137) :
    q.rowAt (.collect c) = if c.val < 136 then q.storeRow else q.completeRow := rfl

theorem encode_storeRow (q : DataPattern) : encode q.storeRow = .stream q.byte := by
  cases q <;> rfl

theorem encode_completeRow (q : DataPattern) : encode q.completeRow = .stream q.byte := by
  cases q <;> rfl

theorem encode_dropRow (q : DataPattern) : encode q.dropRow = .stream q.byte := by
  cases q <;> rfl

theorem selectedIn_storeRow {q : DataPattern} {ctx : DecodeContext} :
    q.storeRow.selectedIn ctx = true ↔ ∃ c, ctx.pos = .collect c ∧ c.val < 136 := by
  obtain ⟨pos, _⟩ := ctx
  cases q <;> cases pos <;> simp [storeRow, Instr.selectedIn]

theorem selectedIn_completeRow {q : DataPattern} {ctx : DecodeContext} :
    q.completeRow.selectedIn ctx = true ↔ ctx.pos = .collect 136 := by
  cases q <;> exact beq_iff_eq

theorem selectedIn_dropRow {q : DataPattern} {ctx : DecodeContext} :
    q.dropRow.selectedIn ctx = true ↔ ctx.pos = .seek := by
  cases q <;> exact beq_iff_eq

theorem encode_rowAt (q : DataPattern) (p : Position) : encode (q.rowAt p) = .stream q.byte := by
  cases p with
  | seek => exact encode_dropRow q
  | collect c =>
    rw [rowAt_collect]
    split_ifs
    · exact encode_storeRow q
    · exact encode_completeRow q

theorem selectedIn_rowAt (q : DataPattern) (ctx : DecodeContext) : (q.rowAt ctx.pos).selectedIn ctx = true := by
  cases hp : ctx.pos with
  | seek => exact selectedIn_dropRow.mpr hp
  | collect c =>
    rw [rowAt_collect]
    split_ifs with hc
    · exact selectedIn_storeRow.mpr ⟨c, hp, hc⟩
    · exact selectedIn_completeRow.mpr (hp.trans (congrArg _ (Fin.ext (by omega))))

end DataPattern

/-! ### The decoder on stream bytes -/

theorem decodeStore_eq (b : Byte) : decodeStore b = (DataPattern.ofByte b).storeRow := by
  unfold decodeStore DataPattern.ofByte
  split_ifs <;> rfl

theorem decodeComplete_eq (b : Byte) : decodeComplete b = (DataPattern.ofByte b).completeRow := by
  unfold decodeComplete DataPattern.ofByte
  split_ifs <;> rfl

theorem decodeDrop_eq (b : Byte) : decodeDrop b = (DataPattern.ofByte b).dropRow := by
  unfold decodeDrop DataPattern.ofByte
  split_ifs <;> rfl

theorem decodeStream_of_sync {b : Byte} (h : isSync b = true) (p : Position) :
    decodeStream p b = .sync (bitsOf b 7 1) (bitsOf b 5 1) (bitsOf b 0 2) :=
  if_pos h

theorem decodeStream_of_data {b : Byte} (h : isSync b = false) (p : Position) :
    decodeStream p b = (DataPattern.ofByte b).rowAt p := by
  unfold decodeStream
  rw [if_neg (by simp [h]), decodeStore_eq, decodeComplete_eq, decodeDrop_eq]
  rfl

theorem decodeStream_byte (q : DataPattern) (p : Position) : decodeStream p q.byte = q.rowAt p := by
  rw [decodeStream_of_data q.isSync_byte, q.ofByte_byte]

theorem decodeStream_byteSync (a b : BitVec 1) (cc : BitVec 2) (p : Position) :
    decodeStream p (byteSync a b cc) = .sync a b cc := by
  rw [decodeStream_of_sync (Machine.isSync_byteSync a b cc)]
  simp (disch := decide) [byteSync, bitsOf, BitVec.extractLsb'_append_eq_of_le,
    BitVec.extractLsb'_append_eq_of_add_le, -Nat.reduceAdd]

/-- A marker byte is its four fixed bits and its four free ones (30 R80, R82). -/
theorem byteSync_of_sync : ∀ b : Byte, isSync b = true →
    byteSync (bitsOf b 7 1) (bitsOf b 5 1) (bitsOf b 0 2) = b := by
  decide

theorem encode_decodeStream (p : Position) (b : Byte) : encode (decodeStream p b) = .stream b := by
  cases hb : isSync b with
  | true => rw [decodeStream_of_sync hb, encode, byteSync_of_sync b hb]
  | false => rw [decodeStream_of_data hb, DataPattern.encode_rowAt, DataPattern.byte_ofByte hb]

theorem selectedIn_decodeStream (ctx : DecodeContext) (b : Byte) :
    (decodeStream ctx.pos b).selectedIn ctx = true := by
  cases hb : isSync b with
  | true => rw [decodeStream_of_sync hb]; rfl
  | false => rw [decodeStream_of_data hb]; exact DataPattern.selectedIn_rowAt _ ctx

theorem DataPattern.decodeWord_storeRow (q : DataPattern) {ctx : DecodeContext}
    (h : q.storeRow.selectedIn ctx = true) : decodeWord ctx (encode q.storeRow) = .ok q.storeRow := by
  obtain ⟨c, hp, hc⟩ := selectedIn_storeRow.mp h
  rw [encode_storeRow, decodeWord, decodeStream_byte, hp, rowAt, if_pos hc]

theorem DataPattern.decodeWord_completeRow (q : DataPattern) {ctx : DecodeContext}
    (h : q.completeRow.selectedIn ctx = true) : decodeWord ctx (encode q.completeRow) = .ok q.completeRow := by
  rw [encode_completeRow, decodeWord, decodeStream_byte, selectedIn_completeRow.mp h]
  rfl

theorem DataPattern.decodeWord_dropRow (q : DataPattern) {ctx : DecodeContext}
    (h : q.dropRow.selectedIn ctx = true) : decodeWord ctx (encode q.dropRow) = .ok q.dropRow := by
  rw [encode_dropRow, decodeWord, decodeStream_byte, selectedIn_dropRow.mp h]
  rfl

/-! ### The decoder on header bytes -/

theorem header_ext {f : HeaderField} {b b' : Byte} (h : b.toNat = b'.toNat) :
    Encoded.header f b = .header f b' :=
  congrArg _ (BitVec.eq_of_toNat_eq h)

/-! In each of the next lemmas a row's word is the byte because the bits that the row fixes are the ones that were
tested for it. -/

theorem encode_decodeCoupling (h0 : Byte) : encode (decodeCoupling h0) = .header .coupling h0 := by
  have hbyte := h0.isLt
  unfold decodeCoupling
  split_ifs <;> apply header_ext <;>
    simp only [bitsOf_eq_iff, toNat_append_eq, toNat_bitsOf, BitVec.toNat_ofNat] at * <;> omega

theorem encode_decodeRange (h0 : Byte) : encode (decodeRange h0) = .header .range h0 := by
  have hbyte := h0.isLt
  unfold decodeRange
  split_ifs <;> apply header_ext <;>
    simp only [bitsOf_eq_iff, toNat_append_eq, toNat_bitsOf, BitVec.toNat_ofNat] at * <;> omega

theorem encode_decodeTrigger (h2 : Byte) : encode (decodeTrigger h2) = .header .trigger h2 := by
  have hbyte := h2.isLt
  unfold decodeTrigger
  split_ifs <;> apply header_ext <;>
    simp only [bitsOf_eq_iff, toNat_append_eq, toNat_bitsOf, BitVec.toNat_ofNat] at * <;> omega

theorem encode_decodeTimebaseFallback {h1 : Byte} (hcode : ¬ h1.toNat < 10) :
    encode (decodeTimebaseFallback h1) = .header .timebase h1 := by
  have hbyte := h1.isLt
  unfold decodeTimebaseFallback
  split_ifs <;> apply header_ext <;>
    simp only [bitsOf_eq_iff, toNat_append_eq, toNat_bitsOf, BitVec.toNat_ofNat] at * <;> omega

theorem encode_decodeTimebaseCode {n : Nat} (h : n < 10) :
    encode (decodeTimebaseCode n) = .header .timebase (BitVec.ofNat 8 n) := by
  interval_cases n <;> rfl

theorem encode_decodeTimebase (h1 : Byte) : encode (decodeTimebase h1) = .header .timebase h1 := by
  unfold decodeTimebase
  split_ifs with hcode
  · rw [encode_decodeTimebaseCode hcode, BitVec.ofNat_toNat, BitVec.setWidth_eq]
  · exact encode_decodeTimebaseFallback hcode

theorem encode_decodeHeader (f : HeaderField) (b : Byte) : encode (decodeHeader f b) = .header f b := by
  cases f with
  | coupling => exact encode_decodeCoupling b
  | range => exact encode_decodeRange b
  | timebase => exact encode_decodeTimebase b
  | trigger => exact encode_decodeTrigger b

/-- A header row is selected by its call alone, whatever the position and the kernel family (42 R180). -/
theorem selectedIn_of_encode_header {i : Instr} {f : HeaderField} {b : Byte} (h : encode i = .header f b)
    (ctx : DecodeContext) : i.selectedIn ctx = true := by
  cases i with
  | sync | dataStoreClear6 | dataStoreClear4 | dataStoreClear3 | dataStoreClear2 | dataCompleteClear6
  | dataCompleteClear4 | dataCompleteClear3 | dataCompleteClear2 | dataDropClear6 | dataDropClear4
  | dataDropClear3 | dataDropClear2 | kernelBspline3 | kernelLanczos3 | noise => cases h
  | _ => rfl

/-! ### Each word and its row of the table -/

/-- The word of every instruction passes the test of its row of the opcode table. -/
theorem fits_encode (i : Instr) : i.row.fits (encode i) = true := by
  cases i with
  | sync => exact Laws.Fits.sync ..
  | dataStoreClear6 => exact Laws.Fits.dataStoreClear6 ..
  | dataStoreClear4 => exact Laws.Fits.dataStoreClear4 ..
  | dataStoreClear3 => exact Laws.Fits.dataStoreClear3 ..
  | dataStoreClear2 => exact Laws.Fits.dataStoreClear2 ..
  | dataCompleteClear6 => exact Laws.Fits.dataCompleteClear6 ..
  | dataCompleteClear4 => exact Laws.Fits.dataCompleteClear4 ..
  | dataCompleteClear3 => exact Laws.Fits.dataCompleteClear3 ..
  | dataCompleteClear2 => exact Laws.Fits.dataCompleteClear2 ..
  | dataDropClear6 => exact Laws.Fits.dataDropClear6 ..
  | dataDropClear4 => exact Laws.Fits.dataDropClear4 ..
  | dataDropClear3 => exact Laws.Fits.dataDropClear3 ..
  | dataDropClear2 => exact Laws.Fits.dataDropClear2 ..
  | decodeCouplingGnd => exact Laws.Fits.decodeCouplingGnd ..
  | decodeCouplingAc => exact Laws.Fits.decodeCouplingAc ..
  | decodeCouplingDc => exact Laws.Fits.decodeCouplingDc ..
  | decodeCouplingReserved => exact Laws.Fits.decodeCouplingReserved ..
  | decodeRange1v => exact Laws.Fits.decodeRange1v ..
  | decodeRange10v => exact Laws.Fits.decodeRange10v ..
  | decodeRange100v => exact Laws.Fits.decodeRange100v ..
  | decodeRangeReserved => exact Laws.Fits.decodeRangeReserved ..
  | decodeTimebase0 => exact Laws.Fits.decodeTimebase0
  | decodeTimebase1 => exact Laws.Fits.decodeTimebase1
  | decodeTimebase2 => exact Laws.Fits.decodeTimebase2
  | decodeTimebase3 => exact Laws.Fits.decodeTimebase3
  | decodeTimebase4 => exact Laws.Fits.decodeTimebase4
  | decodeTimebase5 => exact Laws.Fits.decodeTimebase5
  | decodeTimebase6 => exact Laws.Fits.decodeTimebase6
  | decodeTimebase7 => exact Laws.Fits.decodeTimebase7
  | decodeTimebase8 => exact Laws.Fits.decodeTimebase8
  | decodeTimebase9 => exact Laws.Fits.decodeTimebase9
  | decodeTimebaseFallback10 => exact Laws.Fits.decodeTimebaseFallback10 ..
  | decodeTimebaseFallback12 => exact Laws.Fits.decodeTimebaseFallback12 ..
  | decodeTimebaseFallback16 => exact Laws.Fits.decodeTimebaseFallback16 ..
  | decodeTimebaseFallback32 => exact Laws.Fits.decodeTimebaseFallback32 ..
  | decodeTimebaseFallback64 => exact Laws.Fits.decodeTimebaseFallback64 ..
  | decodeTimebaseFallback128 => exact Laws.Fits.decodeTimebaseFallback128 ..
  | decodeTriggerPlusInternal => exact Laws.Fits.decodeTriggerPlusInternal ..
  | decodeTriggerMinusInternal => exact Laws.Fits.decodeTriggerMinusInternal ..
  | decodeTriggerPlusExternal => exact Laws.Fits.decodeTriggerPlusExternal ..
  | decodeTriggerMinusExternal => exact Laws.Fits.decodeTriggerMinusExternal ..
  | decodeTriggerAuto => exact Laws.Fits.decodeTriggerAuto ..
  | kernelBspline3 | kernelLanczos3 | decode | recon | reconPositions | reconAmplitude | reconXcoord | reconYcoord
  | frame | noise => rfl

theorem Row.accepts_of_fits_stream {r : Row} {b : Byte} (h : r.fits (.stream b) = true) : r.accepts b = true := by
  simp only [Row.fits, Bool.and_eq_true] at h
  exact h.2

theorem Row.accepts_of_fits_header {r : Row} {f : HeaderField} {b : Byte} (h : r.fits (.header f b) = true) :
    r.accepts b = true := by
  cases f <;> simp only [Row.fits, Bool.and_eq_true] at h <;> exact h.2

/-! ### Header words read back -/

/-- A header word is read back as its row.  The fields of the coupling, range and trigger rows are slices of the word
as it was put together; the fallback patterns are told apart by their leading zeros too, and are checked on all their
codes. -/
theorem decodeHeader_of_encode {i : Instr} {f : HeaderField} {b : Byte} (h : encode i = .header f b) :
    decodeHeader f b = i := by
  cases i with
  | decodeCouplingGnd | decodeCouplingAc | decodeCouplingDc | decodeCouplingReserved | decodeRange1v
  | decodeRange10v | decodeRange100v | decodeRangeReserved | decodeTriggerPlusInternal
  | decodeTriggerMinusInternal | decodeTriggerPlusExternal | decodeTriggerMinusExternal | decodeTriggerAuto =>
    cases h
    simp (disch := decide) [decodeHeader, decodeCoupling, decodeRange, decodeTrigger, bitsOf,
      BitVec.extractLsb'_append_eq_of_le, BitVec.extractLsb'_append_eq_of_add_le, -Nat.reduceAdd]
  | decodeTimebase0 | decodeTimebase1 | decodeTimebase2 | decodeTimebase3 | decodeTimebase4 | decodeTimebase5
  | decodeTimebase6 | decodeTimebase7 | decodeTimebase8 | decodeTimebase9 => cases h; rfl
  | decodeTimebaseFallback10 a | decodeTimebaseFallback12 a | decodeTimebaseFallback16 a
  | decodeTimebaseFallback32 a | decodeTimebaseFallback64 a | decodeTimebaseFallback128 a =>
    cases h
    revert a
    decide
  | _ => cases h

/-! ### FRAME and NOISE read back (30 R97) -/

/-- A FRAME is well formed when it names 137 DATA bytes, 128 of them samples (30 R97). -/
theorem wellFormed_frame_iff {h0 h1 h2 h3 : Byte} {samples trailer : List Byte} :
    (Instr.frame h0 h1 h2 h3 samples trailer).wellFormed = true ↔
      (h0 :: h1 :: h2 :: h3 :: (samples ++ trailer)).all isData = true
        ∧ samples.length = 128 ∧ trailer.length = 5 := by
  simp only [Instr.wellFormed, List.all_cons, List.all_append, Bool.and_eq_true, beq_iff_eq]
  tauto

theorem decodeFrame_frameBytes {h0 h1 h2 h3 : Byte} {samples trailer : List Byte}
    (h : (Instr.frame h0 h1 h2 h3 samples trailer).wellFormed = true) :
    decodeFrame (frameBytes h0 h1 h2 h3 samples trailer) = some (.frame h0 h1 h2 h3 samples trailer) := by
  obtain ⟨hdata, hsamples, htrailer⟩ := wellFormed_frame_iff.mp h
  have hlen : (samples ++ trailer).length = 133 := by rw [List.length_append, hsamples, htrailer]
  refine (if_pos ⟨rfl, hlen, hdata⟩).trans ?_
  rw [List.take_left' hsamples, List.drop_left' hsamples]

/-- No FRAME begins with a DATA byte, so DATA bytes alone are read as no FRAME. -/
theorem decodeFrame_of_all_data {bs : List Byte} (h : bs.all isData = true) : decodeFrame bs = none := by
  unfold decodeFrame
  split
  · rename_i m h0 h1 h2 h3 rest
    refine if_neg fun ⟨hm, _⟩ => ?_
    subst hm
    simp only [List.all_cons, Bool.and_eq_true] at h
    exact absurd h.1 (by decide)
  · rfl

theorem decodeBurst_frame {h0 h1 h2 h3 : Byte} {samples trailer : List Byte}
    (h : (Instr.frame h0 h1 h2 h3 samples trailer).wellFormed = true) (p : Position) :
    decodeBurst p (frameBytes h0 h1 h2 h3 samples trailer) = .ok (.frame h0 h1 h2 h3 samples trailer) := by
  rw [decodeBurst, decodeFrame_frameBytes h]

theorem decodeBurst_noise {bs : List Byte} (h : (Instr.noise bs).wellFormed = true) :
    decodeBurst .seek bs = .ok (.noise bs) := by
  rw [decodeBurst, decodeFrame_of_all_data h]
  exact if_pos ⟨rfl, h⟩

end Sys2Proof
end

section
/-!
PROOFS, 30_encoding.md: the statements on decode and encode.
-/

namespace Sys2Proof

/-- Settles O3, row by row: a stream row by the pattern its free bits are put in, a header row by its
field, a call by its name, a burst by its first byte. -/
theorem decodeReadsBackEveryEncoding : Obligations.DecodeReadsBackEveryEncoding := by
  intro i ctx hwf hsel
  cases i with
  | sync a b cc => exact congrArg Except.ok (decodeStream_byteSync a b cc ctx.pos)
  | dataStoreClear6 a b => exact (DataPattern.clear6 a b).decodeWord_storeRow hsel
  | dataStoreClear4 a b c => exact (DataPattern.clear4 a b c).decodeWord_storeRow hsel
  | dataStoreClear3 a b c => exact (DataPattern.clear3 a b c).decodeWord_storeRow hsel
  | dataStoreClear2 a b c => exact (DataPattern.clear2 a b c).decodeWord_storeRow hsel
  | dataCompleteClear6 a b => exact (DataPattern.clear6 a b).decodeWord_completeRow hsel
  | dataCompleteClear4 a b c => exact (DataPattern.clear4 a b c).decodeWord_completeRow hsel
  | dataCompleteClear3 a b c => exact (DataPattern.clear3 a b c).decodeWord_completeRow hsel
  | dataCompleteClear2 a b c => exact (DataPattern.clear2 a b c).decodeWord_completeRow hsel
  | dataDropClear6 a b => exact (DataPattern.clear6 a b).decodeWord_dropRow hsel
  | dataDropClear4 a b c => exact (DataPattern.clear4 a b c).decodeWord_dropRow hsel
  | dataDropClear3 a b c => exact (DataPattern.clear3 a b c).decodeWord_dropRow hsel
  | dataDropClear2 a b c => exact (DataPattern.clear2 a b c).decodeWord_dropRow hsel
  | decodeCouplingGnd | decodeCouplingAc | decodeCouplingDc | decodeCouplingReserved | decodeRange1v
  | decodeRange10v | decodeRange100v | decodeRangeReserved | decodeTimebase0 | decodeTimebase1 | decodeTimebase2
  | decodeTimebase3 | decodeTimebase4 | decodeTimebase5 | decodeTimebase6 | decodeTimebase7 | decodeTimebase8
  | decodeTimebase9 | decodeTimebaseFallback10 | decodeTimebaseFallback12 | decodeTimebaseFallback16
  | decodeTimebaseFallback32 | decodeTimebaseFallback64 | decodeTimebaseFallback128 | decodeTriggerPlusInternal
  | decodeTriggerMinusInternal | decodeTriggerPlusExternal | decodeTriggerMinusExternal | decodeTriggerAuto =>
    exact congrArg Except.ok (decodeHeader_of_encode rfl)
  | kernelBspline3 t =>
    have hkernel : ctx.kernel = .bspline3 := beq_iff_eq.mp hsel
    rw [encode, decodeWord, hkernel, decodeCall]
  | kernelLanczos3 t =>
    have hkernel : ctx.kernel = .lanczos3 := beq_iff_eq.mp hsel
    rw [encode, decodeWord, hkernel, decodeCall]
  | decode | recon | reconPositions | reconAmplitude | reconXcoord | reconYcoord => rfl
  | frame => exact decodeBurst_frame hwf ctx.pos
  | noise bs =>
    have hseek : ctx.pos = .seek := beq_iff_eq.mp hsel
    rw [encode, decodeWord, hseek, decodeBurst_noise hwf]

/-- Settles O4: the word of the decoded row is the byte, and every row accepts its own words. -/
theorem everyByteHasOneInstruction : Obligations.EveryByteHasOneInstruction := by
  refine ⟨fun ctx b => ?_, fun ctx f b => ?_⟩
  · have hword := encode_decodeStream ctx.pos b
    exact ⟨hword, selectedIn_decodeStream ctx b, Row.accepts_of_fits_stream (hword ▸ fits_encode _)⟩
  · have hword := encode_decodeHeader f b
    exact ⟨hword, selectedIn_of_encode_header hword ctx, Row.accepts_of_fits_header (hword ▸ fits_encode _)⟩

/-- Settles O1: the mask and the four bits it has are the one test, and `DATA` is the complement. -/
theorem syncClassTestsFourBits : Obligations.SyncClassTestsFourBits :=
  fun b => ⟨isSync_iff_mask, isSync_iff_mask.trans (mask_eq_iff_bits b), isData_iff⟩

/-- Settles O2, a statement about 256 bytes, byte by byte. -/
theorem syncHasSixteenMembersDataFourPatterns : Obligations.SyncHasSixteenMembersDataFourPatterns :=
  ⟨by decide, by decide, by decide +kernel⟩

/-- Settles O5: the eight words, each run through the decoder. -/
theorem sampleWordsDecode : Obligations.SampleWordsDecode :=
  ⟨by decide, by decide, by decide, by decide, by decide, by decide, by decide, by decide⟩

end Sys2Proof
end

section
/-!
PROOFS, 30_encoding.md R84, R97: what FRAME and NOISE feed.
-/

namespace Sys2Proof.Machine

/-! ### What a run of bytes keeps -/

theorem State.sameInputs.trans {s t u : State} (h : s.sameInputs t) (h' : t.sameInputs u) : s.sameInputs u := by
  obtain ⟨hpaused, hdx, hdy, hbuild, hpending⟩ := h
  obtain ⟨hpaused', hdx', hdy', hbuild', hpending'⟩ := h'
  exact ⟨hpaused'.trans hpaused, hdx'.trans hdx, hdy'.trans hdy, hbuild'.trans hbuild, hpending'.trans hpending⟩

theorem feedAll_sameInputs (bs : List Byte) (s : State) : s.sameInputs (feedAll bs s) := by
  induction bs generalizing s with
  | nil => exact ⟨rfl, rfl, rfl, rfl, rfl⟩
  | cons b bs ih => exact (feed_sameInputs b s).trans (ih (feed b s))

/-- The reader's reply is no output of the synchronizer (41 R140). -/
theorem feed_reply (b : Byte) (s : State) : (feed b s).out.reply = s.out.reply := by
  rcases feed_cases b s with ⟨_, h⟩ | ⟨_, _, h⟩ | ⟨c, _, _, _, h⟩ | ⟨c, _, _, _, h⟩ <;> rw [h] <;> rfl

theorem feedAll_reply (bs : List Byte) (s : State) : (feedAll bs s).out.reply = s.out.reply := by
  induction bs generalizing s with
  | nil => rfl
  | cons b bs ih => rw [feedAll_cons, ih, feed_reply]

/-! ### A marker and the DATA bytes after it -/

/-- In `t` the bytes `bs` have been collected since a marker, and no frame has been returned since `s`. -/
structure State.Collected (s t : State) (bs : List Byte) : Prop where
  pos : ∃ c : Fin 137, t.pos = .collect c ∧ c.val = bs.length
  wf : t.buf.wf = true
  bytes : t.buf.readBytes 0 bs.length = bs
  frames : t.out.frames = s.out.frames

theorem State.collected_feedSync {s : State} (hw : s.buf.wf = true) : s.Collected (feedSync s) [] :=
  ⟨⟨0, rfl, rfl⟩, hw, rfl, rfl⟩

/-- One more DATA byte, with room left behind it (41 R142). -/
theorem State.Collected.feed {s t : State} {bs : List Byte} (h : s.Collected t bs) {b : Byte}
    (hb : isSync b = false) (hroom : bs.length < 136) : s.Collected (feed b t) (bs ++ [b]) := by
  obtain ⟨c, hpos, hc⟩ := h.pos
  rw [feed_at_collect hb hpos (hc ▸ hroom)]
  exact
    { pos := ⟨⟨c.val + 1, by omega⟩, positionAfter_of_lt (hc ▸ hroom), by simp [hc]⟩
      wf := Memory.write_wf h.wf c.isLt
      bytes := by simp [hc, Memory.readBytes_write_next h.wf, h.bytes]
      frames := h.frames }

/-- A marker and up to 136 DATA bytes, from any position (41 R141, R142). -/
theorem State.collected_feedAll {s : State} (hw : s.buf.wf = true) {m : Byte} (hm : isSync m = true)
    (bs : List Byte) (hdata : bs.all isData = true) (hroom : bs.length ≤ 136) :
    s.Collected (feedAll (m :: bs) s) bs := by
  induction bs using List.reverseRecOn with
  | nil =>
    rw [feedAll_cons, feed_of_sync s hm]
    exact State.collected_feedSync hw
  | append_singleton bs b ih =>
    simp only [List.all_append, List.all_cons, List.all_nil, Bool.and_true, Bool.and_eq_true] at hdata
    simp only [List.length_append, List.length_singleton] at hroom
    rw [← List.cons_append, feedAll_concat]
    exact (ih hdata.1 (by omega)).feed (isData_iff.mp hdata.2) (by omega)

/-- In `t` the frame `f` has just been completed, the one frame returned since `s` (41 R144). -/
structure State.Completed (s t : State) (f : Frame) : Prop where
  pos : t.pos = .seek
  hasData : t.hasData = true
  snap : t.buf = t.snap
  frame : t.snapFrame = f
  frames : t.out.frames = s.out.frames ++ [f]

/-- The 137th DATA byte (41 R144). -/
theorem State.Collected.complete {s t : State} {bs : List Byte} (h : s.Collected t bs) {b : Byte}
    (hb : isSync b = false) (hfull : bs.length = 136) : s.Completed (feedAll [b] t) (bs ++ [b]) := by
  obtain ⟨c, hpos, hc⟩ := h.pos
  have hframe : (t.buf.write 136 b).readBytes 0 137 = bs ++ [b] := by
    rw [Memory.readBytes_write_next h.wf, ← hfull, h.bytes]
  rw [feedAll_cons, feed_at_last hb hpos (by omega)]
  exact ⟨rfl, rfl, rfl, hframe, by simp [h.frames, hframe]⟩

/-- A marker and 137 DATA bytes complete exactly the frame of those bytes, from any position (30 R84). -/
theorem State.completed_feedAll {s : State} (hw : s.buf.wf = true) {m : Byte} (hm : isSync m = true) {f : Frame}
    (hdata : f.all isData = true) (hlen : f.length = 137) : s.Completed (feedAll (m :: f) s) f := by
  induction f using List.reverseRecOn with
  | nil => cases hlen
  | append_singleton bs b =>
    simp only [List.all_append, List.all_cons, List.all_nil, Bool.and_true, Bool.and_eq_true] at hdata
    simp only [List.length_append, List.length_singleton] at hlen
    rw [← List.cons_append, feedAll_append]
    exact (State.collected_feedAll hw hm bs hdata.1 (by omega)).complete (isData_iff.mp hdata.2) (by omega)

/-- Settles O25: the expansion of a well-formed FRAME is a marker and 137 DATA bytes. -/
theorem frameNotationDeliversItsBytes : Obligations.FrameNotationDeliversItsBytes := by
  intro s h0 h1 h2 h3 samples trailer
  refine ⟨exec_frame h0 h1 h2 h3 samples trailer s, fun hcan hwf => ?_⟩
  obtain ⟨hdata, hsamples, htrailer⟩ := wellFormed_frame_iff.mp hwf
  have hlen : (h0 :: h1 :: h2 :: h3 :: (samples ++ trailer)).length = 137 := by simp [hsamples, htrailer]
  have hdone := State.completed_feedAll (State.buf_wf_of_memoryCanonical hcan)
    (show isSync Config.syncMask = true by decide) hdata hlen
  exact ⟨_, exec_frame h0 h1 h2 h3 samples trailer s, hdone.frames, hdone.frame, hdone.snap, hdone.pos,
    hdone.hasData, feedAll_sameInputs _ s, feedAll_ports _ s, feedAll_reply _ s⟩

/-! ### NOISE -/

/-- Each DATA byte at `SEEK` adds its own label and nothing else (41 R143). -/
theorem feedAll_data_at_seek {s : State} (hs : s.pos = .seek) {bs : List Byte} (hdata : bs.all isData = true) :
    feedAll bs s = { s with out := { s.out with events := s.out.events ++ bs.map Event.noiseDrop } } := by
  induction bs generalizing s with
  | nil => simp
  | cons b bs ih =>
    simp only [List.all_cons, Bool.and_eq_true] at hdata
    rw [feedAll_cons, feed_at_seek (isData_iff.mp hdata.1) hs, ih ((dropByte_pos b s).trans hs) hdata.2]
    simp [dropByte, State.raise]

/-- Settles O26: a NOISE is its bytes, and at `SEEK` the DATA class drops them. -/
theorem noiseAtSeekDropsEveryByte : Obligations.NoiseAtSeekDropsEveryByte :=
  fun s bytes => ⟨exec_noise bytes s, fun hs hdata =>
    (exec_noise bytes s).trans (congrArg Host.Outcome.next (feedAll_data_at_seek hs hdata))⟩

end Sys2Proof.Machine
end

section
/-!
PROOFS, 40_filter_kernel.md, what the statements on the filter share: the two kernels region by region, on the
reals (R113, R115, R116) and on the machine's rational offsets (log 13), the real value of a weight, and a sum over
every integer shift as a sum over the taps (43 R213).
-/

namespace Sys2Proof.Machine

/-! ### The support radius -/

@[simp] theorem supportRadius_bspline3 : supportRadius .bspline3 = 2 := rfl
@[simp] theorem supportRadius_lanczos3 : supportRadius .lanczos3 = 3 := rfl

/-! ### The normalised sinc (R116) -/

/-- The spec's sinc is the unnormalised one of the library at `π x`. -/
theorem realSinc_eq_sinc (x : ℝ) : realSinc x = Real.sinc (Real.pi * x) := by
  by_cases h : x = 0
  · simp [realSinc, h]
  · rw [realSinc, if_neg h, Real.sinc_of_ne_zero (mul_ne_zero Real.pi_ne_zero h)]

@[simp] theorem realSinc_zero : realSinc 0 = 1 := if_pos rfl

theorem abs_realSinc_le_one (x : ℝ) : |realSinc x| ≤ 1 := by
  rw [realSinc_eq_sinc]
  exact Real.abs_sinc_le_one _

theorem realSinc_intCast {n : ℤ} (h : n ≠ 0) : realSinc (n : ℝ) = 0 := by
  rw [realSinc, if_neg (Int.cast_ne_zero.mpr h), mul_comm, Real.sin_int_mul_pi, zero_div]

/-! ### The real kernels, region by region (R113, R115) -/

theorem realBspline3_outer {t : ℝ} (h1 : 1 ≤ |t|) (h2 : |t| ≤ 2) : realBspline3 t = (2 - |t|) ^ 3 / 6 := by
  rw [realBspline3, if_neg h1.not_gt]
  rcases h2.lt_or_eq with hlt | heq
  · exact if_pos hlt
  · rw [if_neg heq.not_lt, heq]
    norm_num

/-- The two cubics meet at 1 (R114 (d)), so the inner one holds there too. -/
theorem realBspline3_inner {t : ℝ} (h : |t| ≤ 1) : realBspline3 t = 2 / 3 - |t| ^ 2 + |t| ^ 3 / 2 := by
  rcases h.lt_or_eq with hlt | heq
  · exact if_pos hlt
  · rw [realBspline3_outer heq.ge (heq.le.trans one_le_two), heq]
    norm_num

theorem realBspline3_beyond {t : ℝ} (h : 2 ≤ |t|) : realBspline3 t = 0 := by
  rw [realBspline3, if_neg (one_le_two.trans h).not_gt, if_neg h.not_gt]

theorem realLanczos3_inner {t : ℝ} (h : |t| < 3) : realLanczos3 t = realSinc |t| * realSinc (|t| / 3) := if_pos h

theorem realLanczos3_beyond {t : ℝ} (h : 3 ≤ |t|) : realLanczos3 t = 0 := if_neg h.not_gt

theorem realBspline3_neg (t : ℝ) : realBspline3 (-t) = realBspline3 t := by
  simp only [realBspline3, abs_neg]

theorem realLanczos3_neg (t : ℝ) : realLanczos3 (-t) = realLanczos3 t := by
  simp only [realLanczos3, abs_neg]

theorem realKernel_neg (k : KernelFamily) (t : ℝ) : realKernel k (-t) = realKernel k t := by
  cases k with
  | bspline3 => exact realBspline3_neg t
  | lanczos3 => exact realLanczos3_neg t

/-- Both kernels are exactly 0 at and above their radius (R118). -/
theorem realKernel_beyond {k : KernelFamily} {t : ℝ} (h : (supportRadius k : ℝ) ≤ |t|) : realKernel k t = 0 := by
  cases k with
  | bspline3 => exact realBspline3_beyond (by simpa using h)
  | lanczos3 => exact realLanczos3_beyond (by simpa using h)

/-! ### The machine's kernels, region by region -/

theorem bspline3_inner {t : Rat} (h : |t| < 1) : bspline3 t = 2 / 3 - |t| ^ 2 + |t| ^ 3 / 2 := if_pos h

theorem bspline3_outer {t : Rat} (h1 : 1 ≤ |t|) (h2 : |t| < 2) : bspline3 t = (2 - |t|) ^ 3 / 6 := by
  rw [bspline3, if_neg h1.not_gt, if_pos h2]

theorem bspline3_beyond {t : Rat} (h : 2 ≤ |t|) : bspline3 t = 0 := by
  rw [bspline3, if_neg (one_le_two.trans h).not_gt, if_neg h.not_gt]

theorem lanczos3_zero : lanczos3 0 = ratNum 1 := by
  simp [lanczos3]

theorem lanczos3_of_den_eq_one {t : Rat} (h0 : t ≠ 0) (hd : |t|.den = 1) : lanczos3 t = ratNum 0 := by
  simp [lanczos3, h0, hd]

theorem lanczos3_of_den_ne_one {t : Rat} (h : |t| < 3) (hd : |t|.den ≠ 1) : lanczos3 t = ⟨0, [(1, |t|)]⟩ := by
  have h0 : |t| ≠ 0 := fun h0 => hd (by rw [h0]; rfl)
  rw [lanczos3, if_pos h, if_neg h0, if_neg hd]

theorem lanczos3_beyond {t : Rat} (h : 3 ≤ |t|) : lanczos3 t = ratNum 0 := if_neg h.not_gt

theorem bspline3_neg (t : Rat) : bspline3 (-t) = bspline3 t := by
  simp only [bspline3, abs_neg]

theorem lanczos3_neg (t : Rat) : lanczos3 (-t) = lanczos3 t := by
  simp only [lanczos3, abs_neg]

theorem kernelAt_neg (k : KernelFamily) (t : Rat) : kernelAt k (-t) = kernelAt k t := by
  cases k with
  | bspline3 => exact congrArg ratNum (bspline3_neg t)
  | lanczos3 => exact lanczos3_neg t

theorem kernelAt_beyond {k : KernelFamily} {t : Rat} (h : (supportRadius k : Rat) ≤ |t|) :
    kernelAt k t = ratNum 0 := by
  cases k with
  | bspline3 => exact congrArg ratNum (bspline3_beyond (by simpa using h))
  | lanczos3 => exact lanczos3_beyond (by simpa using h)

/-! ### The real value of a weight -/

@[simp] theorem numToReal_ratNum (q : Rat) : numToReal (ratNum q) = (q : ℝ) := by
  simp [numToReal, ratNum, termsToReal]

/-- One term at offset `a` stands for `sinc(a) * sinc(a/3)` (R115, log 14). -/
theorem numToReal_singleTerm (a : Rat) : numToReal ⟨0, [(1, a)]⟩ = realSinc (a : ℝ) * realSinc ((a : ℝ) / 3) := by
  simp [numToReal, termsToReal]

theorem cast_bspline3 (t : Rat) : ((bspline3 t : Rat) : ℝ) = realBspline3 (t : ℝ) := by
  rcases lt_or_ge |t| 1 with h1 | h1
  · rw [bspline3_inner h1, realBspline3_inner (by exact_mod_cast h1.le)]
    push_cast
    rfl
  rcases lt_or_ge |t| 2 with h2 | h2
  · rw [bspline3_outer h1 h2, realBspline3_outer (by exact_mod_cast h1) (by exact_mod_cast h2.le)]
    push_cast
    rfl
  · rw [bspline3_beyond h2, realBspline3_beyond (by exact_mod_cast h2), Rat.cast_zero]

/-- `LANCZOS3` is 0 at every integer but 0 (R117 (b)). -/
theorem realLanczos3_intCast {n : ℤ} (h : n ≠ 0) : realLanczos3 (n : ℝ) = 0 := by
  rcases lt_or_ge |(n : ℝ)| 3 with hlt | hge
  · rw [realLanczos3_inner hlt, ← Int.cast_abs, realSinc_intCast (abs_ne_zero.mpr h), zero_mul]
  · exact realLanczos3_beyond hge

theorem realLanczos3_zero : realLanczos3 0 = 1 := by
  rw [realLanczos3_inner (by norm_num)]
  simp

theorem numToReal_lanczos3 (t : Rat) : numToReal (lanczos3 t) = realLanczos3 (t : ℝ) := by
  by_cases h0 : t = 0
  · simp [h0, lanczos3_zero, realLanczos3_zero]
  by_cases hd : |t|.den = 1
  · obtain ⟨n, rfl⟩ : ∃ n : ℤ, (n : Rat) = t := ⟨t.num, Rat.coe_int_num_of_den_eq_one (by simpa using hd)⟩
    rw [lanczos3_of_den_eq_one h0 hd, Rat.cast_intCast, realLanczos3_intCast (by exact_mod_cast h0)]
    simp
  rcases lt_or_ge |t| 3 with h3 | h3
  · rw [lanczos3_of_den_ne_one h3 hd, numToReal_singleTerm, realLanczos3_inner (by exact_mod_cast h3), Rat.cast_abs]
  · rw [lanczos3_beyond h3, realLanczos3_beyond (by exact_mod_cast h3)]
    simp

/-- The machine's weight stands for the spec's real kernel at that offset (R110). -/
theorem numToReal_kernelAt (k : KernelFamily) (t : Rat) : numToReal (kernelAt k t) = realKernel k (t : ℝ) := by
  cases k with
  | bspline3 => exact (numToReal_ratNum _).trans (cast_bspline3 t)
  | lanczos3 => exact numToReal_lanczos3 t

/-! ### Every integer in the support is a tap (43 R213) -/

theorem nodup_taps (k : KernelFamily) (n : ℤ) : (taps k n).Nodup := by
  cases k with
  | bspline3 =>
    simp [taps]
    omega
  | lanczos3 =>
    simp [taps]
    omega

theorem mem_taps_of_abs_sub_lt {k : KernelFamily} {x : ℝ} {j : ℤ} (h : |x - (j : ℝ)| < (supportRadius k : ℝ)) :
    j ∈ taps k ⌊x⌋ := by
  obtain ⟨hlo, hhi⟩ := abs_lt.mp h
  have habove : ⌊x⌋ < j + supportRadius k := Int.floor_lt.mpr (by push_cast; linarith)
  have hbelow : j - supportRadius k < ⌊x⌋ + 1 := by
    have hx := Int.lt_floor_add_one x
    exact_mod_cast (by push_cast; linarith : ((j - supportRadius k : ℤ) : ℝ) < ((⌊x⌋ + 1 : ℤ) : ℝ))
  cases k with
  | bspline3 =>
    simp only [supportRadius_bspline3] at habove hbelow
    simp only [taps, List.mem_cons, List.not_mem_nil, or_false]
    omega
  | lanczos3 =>
    simp only [supportRadius_lanczos3] at habove hbelow
    simp only [taps, List.mem_cons, List.not_mem_nil, or_false]
    omega

/-- A sum over every integer of what vanishes outside the support is the sum over the taps. -/
theorem finsum_eq_sum_taps {k : KernelFamily} {x : ℝ} {f : ℤ → ℝ}
    (h : ∀ j : ℤ, (supportRadius k : ℝ) ≤ |x - (j : ℝ)| → f j = 0) :
    ∑ᶠ j : ℤ, f j = ((taps k ⌊x⌋).map f).sum := by
  have hsupp : f.support ⊆ ((taps k ⌊x⌋).toFinset : Set ℤ) := fun j hj => by
    by_contra hmem
    exact hj (h j (not_lt.mp fun hlt => hmem (by simpa using mem_taps_of_abs_sub_lt hlt)))
  rw [finsum_eq_sum_of_support_subset f hsupp, List.sum_toFinset f (nodup_taps k ⌊x⌋)]

end Sys2Proof.Machine
end

section
/-!
PROOFS, 40_filter_kernel.md: the statements on the two kernels.
-/

namespace Sys2Proof.Machine

/-- Settles O35: the reply is the machine's cubic, whose definition is R113's. -/
theorem bsplineRepliesTheCubics : Obligations.BsplineRepliesTheCubics :=
  fun s t => exec_kernelBspline3 t s

/-- Settles O36: the reply is the machine's exact number, which stands for the real kernel. -/
theorem lanczosRepliesSincProduct : Obligations.LanczosRepliesSincProduct :=
  fun s t => ⟨lanczos3 t, exec_kernelLanczos3 t s, numToReal_lanczos3 t⟩

/-! ### Symmetry and support in a build (R112, R118, R119) -/

/-- Only a tolerance of 0 or more can be met. -/
theorem tolerance_nonneg_of_approximates {bd : Build} {y x : ℝ} (h : bd.approximates y x) :
    0 ≤ toleranceToReal bd.tol :=
  (abs_nonneg _).trans h.2

theorem computesKernel_even_and_beyond {bd : Build} {computed : ℝ → ℝ} (hc : bd.computesKernel computed) {t : ℝ}
    (ht : bd.numFmt.Holds t) (hneg : bd.numFmt.Holds (-t)) :
    |computed (-t) - computed t| ≤ 2 * toleranceToReal bd.tol ∧ computed (-t) = computed t
      ∧ ((supportRadius bd.kernel : ℝ) ≤ |t| → computed t = 0) := by
  obtain ⟨happrox, hbeyond, heven⟩ := hc t ht
  have htol := tolerance_nonneg_of_approximates happrox
  refine ⟨?_, heven hneg, hbeyond⟩
  rw [heven hneg, sub_self, abs_zero]
  positivity

/-- Settles O37: each kernel reads its offset through `|t|` alone, and a build inherits that at the offsets it
holds (log 15). -/
theorem kernelsAreEvenWithCompactSupport : Obligations.KernelsAreEvenWithCompactSupport :=
  ⟨⟨supportRadius_bspline3, supportRadius_lanczos3⟩,
    fun k t => ⟨realKernel_neg k t, realKernel_beyond⟩,
    fun k t => ⟨kernelAt_neg k t, kernelAt_beyond⟩,
    fun _ _ _ hc ht hneg => computesKernel_even_and_beyond hc ht hneg⟩

/-- Settles O38: the call runs the active family's row, and its weight stands for the real kernel. -/
theorem kernelCallIsTheActiveFamily : Obligations.KernelCallIsTheActiveFamily :=
  fun s _ t hp => ⟨(step_call hp).trans (exec_decodeCall_kernel s.build.kernel t _), numToReal_kernelAt _ t⟩

/-! ### The B-spline (R114) -/

/-- The weights of the four taps around an offset `u` past a sample sum to 1. -/
theorem realBspline3_four_taps {u : ℝ} (h0 : 0 ≤ u) (h1 : u ≤ 1) :
    realBspline3 (u + 1) + realBspline3 u + realBspline3 (u - 1) + realBspline3 (u - 2) = 1 := by
  have habs1 : |u + 1| = u + 1 := abs_of_nonneg (by linarith)
  have habs2 : |u| = u := abs_of_nonneg h0
  have habs3 : |u - 1| = 1 - u := by rw [abs_of_nonpos (by linarith), neg_sub]
  have habs4 : |u - 2| = 2 - u := by rw [abs_of_nonpos (by linarith), neg_sub]
  rw [realBspline3_outer (by linarith) (by linarith), realBspline3_inner (by linarith),
    realBspline3_inner (by linarith), realBspline3_outer (by linarith) (by linarith), habs1, habs2, habs3, habs4]
  ring

theorem finsum_realBspline3 (x : ℝ) : ∑ᶠ j : ℤ, realBspline3 (x - (j : ℝ)) = 1 := by
  have htaps : ∑ᶠ j : ℤ, realBspline3 (x - (j : ℝ))
      = ((taps .bspline3 ⌊x⌋).map fun j : ℤ => realBspline3 (x - (j : ℝ))).sum :=
    finsum_eq_sum_taps fun _ => realKernel_beyond (k := .bspline3)
  have hfour := realBspline3_four_taps (Int.fract_nonneg x) (Int.fract_lt_one x).le
  rw [htaps, ← hfour, Int.fract]
  simp only [taps, List.map_cons, List.map_nil, List.sum_cons, List.sum_nil]
  push_cast
  ring_nf

theorem realBspline3_nonneg (t : ℝ) : 0 ≤ realBspline3 t := by
  have ht := abs_nonneg t
  rcases le_total |t| 1 with h1 | h1
  · have hsq : |t| ^ 2 ≤ 1 := pow_le_one₀ ht h1
    rw [realBspline3_inner h1]
    nlinarith
  rcases le_total |t| 2 with h2 | h2
  · have hcube : 0 ≤ (2 - |t|) ^ 3 := pow_nonneg (by linarith) 3
    rw [realBspline3_outer h1 h2]
    linarith
  · exact (realBspline3_beyond h2).ge

theorem realBspline3_le_two_thirds (t : ℝ) : realBspline3 t ≤ 2 / 3 := by
  have ht := abs_nonneg t
  rcases le_total |t| 1 with h1 | h1
  · have hcube : |t| ^ 3 ≤ |t| ^ 2 := pow_le_pow_of_le_one ht h1 (by norm_num)
    rw [realBspline3_inner h1]
    linarith [sq_nonneg |t|]
  rcases le_total |t| 2 with h2 | h2
  · have hcube : (2 - |t|) ^ 3 ≤ 1 := pow_le_one₀ (by linarith) (by linarith)
    rw [realBspline3_outer h1 h2]
    linarith
  · rw [realBspline3_beyond h2]
    norm_num

/-- Settles O39: the sum is over the four taps, and each cubic keeps its bounds on its own interval. -/
theorem bsplineIsPartitionOfUnity : Obligations.BsplineIsPartitionOfUnity :=
  ⟨finsum_realBspline3, fun t => ⟨realBspline3_nonneg t, realBspline3_le_two_thirds t⟩⟩

/-! ### The Lanczos kernel (R117) -/

/-- The weight is a product of two factors of size at most 1. -/
theorem abs_realLanczos3_le_one (t : ℝ) : |realLanczos3 t| ≤ 1 := by
  rcases lt_or_ge |t| 3 with hlt | hge
  · rw [realLanczos3_inner hlt, abs_mul]
    exact mul_le_one₀ (abs_realSinc_le_one _) (abs_nonneg _) (abs_realSinc_le_one _)
  · rw [realLanczos3_beyond hge, abs_zero]
    exact zero_le_one

/-- Settles O40, one fact for each of R117 (a) to (e). -/
theorem lanczosInterpolatesAndIsBounded : Obligations.LanczosInterpolatesAndIsBounded :=
  ⟨realLanczos3_zero, fun _ => realLanczos3_intCast, realLanczos3_neg, fun _ => realLanczos3_beyond,
    abs_realLanczos3_le_one⟩

end Sys2Proof.Machine
end

section
/-!
PROOFS, 41_frame_synchronizer.md, what the statements on the synchronizer share: what the stream rows run (R140), when
a byte returns a frame (R144), what feeding does to the output record (R149), and how many bytes a frame takes (R153).
-/

namespace Sys2Proof.Machine

/-! ### What the stream rows run -/

/-- A row with a stream word feeds its byte, whatever the position (41 R140, log 6). -/
theorem exec_of_encode_stream {i : Instr} {b : Byte} (h : encode i = .stream b) (s : State) :
    exec i s = .next (feed b s) := by
  cases i with
  | sync a b cc =>
    cases h
    rw [exec_sync, feed_of_sync s (isSync_byteSync a b cc)]
  | dataStoreClear6 a b => cases h; exact storeArm_eq_feed s (isSync_byteClear6 a b)
  | dataStoreClear4 a b c => cases h; exact storeArm_eq_feed s (isSync_byteClear4 a b c)
  | dataStoreClear3 a b c => cases h; exact storeArm_eq_feed s (isSync_byteClear3 a b c)
  | dataStoreClear2 a b c => cases h; exact storeArm_eq_feed s (isSync_byteClear2 a b c)
  | dataCompleteClear6 a b => cases h; exact completeArm_eq_feed s (isSync_byteClear6 a b)
  | dataCompleteClear4 a b c => cases h; exact completeArm_eq_feed s (isSync_byteClear4 a b c)
  | dataCompleteClear3 a b c => cases h; exact completeArm_eq_feed s (isSync_byteClear3 a b c)
  | dataCompleteClear2 a b c => cases h; exact completeArm_eq_feed s (isSync_byteClear2 a b c)
  | dataDropClear6 a b => cases h; exact dropArm_eq_feed s (isSync_byteClear6 a b)
  | dataDropClear4 a b c => cases h; exact dropArm_eq_feed s (isSync_byteClear4 a b c)
  | dataDropClear3 a b c => cases h; exact dropArm_eq_feed s (isSync_byteClear3 a b c)
  | dataDropClear2 a b c => cases h; exact dropArm_eq_feed s (isSync_byteClear2 a b c)
  | _ => cases h

/-- A DATA.STORE row in its own context (41 R142). -/
theorem exec_storeRow_at_collect (q : DataPattern) {s : State} {c : Fin 137} (hp : s.pos = .collect c)
    (hc : c.val < 136) : exec q.storeRow s = .next (storeByte q.byte c s) := by
  rw [exec_of_encode_stream q.encode_storeRow, feed_at_collect q.isSync_byte hp hc]

/-- A DATA.COMPLETE row in its own context (41 R144). -/
theorem exec_completeRow_at_last (q : DataPattern) {s : State} (hp : s.pos = .collect 136) :
    exec q.completeRow s = .next (completeFrame q.byte s) := by
  rw [exec_of_encode_stream q.encode_completeRow, feed_at_last q.isSync_byte hp (by decide)]

/-- A DATA.DROP row in its own context (41 R143). -/
theorem exec_dropRow_at_seek (q : DataPattern) {s : State} (hp : s.pos = .seek) :
    exec q.dropRow s = .next (dropByte q.byte s) := by
  rw [exec_of_encode_stream q.encode_dropRow, feed_at_seek q.isSync_byte hp]

/-! ### Bytes that are not taken -/

theorem fetch_poll_of_paused {s : State} (b : Byte) (h : s.paused = true) :
    fetch (.poll (some b)) s = .next (s, none) := by
  simp [fetch, h]

theorem fetch_burst_of_paused {s : State} (bs : List Byte) (h : s.paused = true) :
    fetch (.burst bs) s = .next (s, none) := by
  simp [fetch, h]

/-! ### The positions -/

/-- The 138 positions of 41 R145. -/
def allPositions : List Position := .seek :: (List.finRange 137).map .collect

theorem length_allPositions : allPositions.length = 138 := by
  simp [allPositions]

theorem mem_allPositions (p : Position) : p ∈ allPositions := by
  cases p <;> simp [allPositions]

theorem nodup_allPositions : allPositions.Nodup := by
  have hcollect : Function.Injective Position.collect := fun _ _ h => Position.collect.inj h
  exact List.nodup_cons.mpr ⟨by simp, (List.nodup_finRange 137).map hcollect⟩

/-! ### The byte that returns a frame -/

/-- A byte returns a frame exactly when it is a DATA byte at `COLLECT(136)` (41 R144). -/
theorem feed_frames_iff {b : Byte} {s : State} {f : Frame} :
    (feed b s).out.frames = s.out.frames ++ [f] ↔
      isSync b = false ∧ s.pos = .collect 136 ∧ (s.buf.write 136 b).readBytes 0 137 = f := by
  rcases feed_cases b s with ⟨hb, hf⟩ | ⟨_, hp, hf⟩ | ⟨c, _, hp, hc, hf⟩ | ⟨c, hb, hp, hc, hf⟩ <;> rw [hf]
  · simp [hb]
  · simp [hp]
  · have hne : c ≠ 136 := fun h => by simp [h] at hc
    simp [hp, hne]
  · obtain rfl : c = 136 := Fin.ext hc
    simp [hb, hp]

/-- One byte returns no frame, or one (41 R140). -/
theorem feed_frames_cases (b : Byte) (s : State) :
    (feed b s).out.frames = s.out.frames ∨ ∃ f, (feed b s).out.frames = s.out.frames ++ [f] := by
  rcases feed_cases b s with ⟨_, hf⟩ | ⟨_, _, hf⟩ | ⟨c, _, _, _, hf⟩ | ⟨c, _, _, _, hf⟩ <;> rw [hf]
  · exact .inl rfl
  · exact .inl rfl
  · exact .inl rfl
  · exact .inr ⟨_, rfl⟩

/-- The last of the 138 bytes apart: a marker and 136 DATA bytes before it, and it is the 137th. -/
theorem endsWithFrame_concat_iff {bs : List Byte} {b : Byte} {f : Frame} :
    EndsWithFrame (bs ++ [b]) f ↔ ∃ before m g, bs = before ++ m :: g ∧ f = g ++ [b] ∧ isSync m = true
      ∧ g.length = 136 ∧ g.all isData = true ∧ isSync b = false := by
  constructor
  · rintro ⟨before, m, hbs, hm, hlen, hdata⟩
    rcases List.eq_nil_or_concat' f with rfl | ⟨g, b', rfl⟩
    · cases hlen
    · rw [← List.cons_append, ← List.append_assoc] at hbs
      obtain ⟨rfl, hlast⟩ := List.append_inj' hbs rfl
      cases hlast
      rw [List.length_append] at hlen
      simp only [List.all_append, List.all_cons, List.all_nil, Bool.and_true, Bool.and_eq_true, isData_iff] at hdata
      exact ⟨before, m, g, rfl, rfl, hm, Nat.succ.inj hlen, hdata⟩
  · rintro ⟨before, m, g, rfl, rfl, hm, hlen, hdata, hb⟩
    exact ⟨before, m, by simp, hm, by simp [hlen, Config.frameLen], by simp [hdata, isData_iff.mpr hb]⟩

/-- The last byte returns the frame of a marker and 137 DATA bytes that end with it: the first 136 of them are the
cells collected so far (41 R151). -/
theorem feedAll_returns_iff {s : State} (hw : s.buf.wf = true) (hs : s.pos = .seek) {bs : List Byte} {b : Byte}
    {f : Frame} :
    (feedAll (bs ++ [b]) s).out.frames = (feedAll bs s).out.frames ++ [f] ↔ EndsWithFrame (bs ++ [b]) f := by
  rw [feedAll_concat, feed_frames_iff, Memory.readBytes_write_next (feedAll_buf_wf bs hw), endsWithFrame_concat_iff]
  constructor
  · rintro ⟨hb, hp, rfl⟩
    obtain ⟨before, m, hbs, hm, hdata⟩ := buf_since_marker hw hs bs 136 hp
    exact ⟨before, m, _, hbs, rfl, hm, Memory.readBytes_length _ _ _, hdata, hb⟩
  · rintro ⟨before, m, g, rfl, rfl, hm, hlen, hdata, hb⟩
    have hg := State.collected_feedAll (feedAll_buf_wf before hw) hm g hdata hlen.le
    obtain ⟨c, hp, hc⟩ := hg.pos
    obtain rfl : c = 136 := Fin.ext (hc.trans hlen)
    have hbytes := hg.bytes
    rw [hlen] at hbytes
    rw [feedAll_append, hbytes]
    exact ⟨hb, hp, rfl⟩

/-- A marker followed by 137 DATA bytes stands somewhere in the sequence (41 R152). -/
def ContainsFrame (bs : List Byte) : Prop :=
  ∃ before m f after, bs = before ++ m :: (f ++ after) ∧ isSync m = true ∧ f.length = 137 ∧ f.all isData = true

theorem EndsWithFrame.containsFrame {bs : List Byte} {f : Frame} (h : EndsWithFrame bs f) : ContainsFrame bs := by
  obtain ⟨before, m, hbs, hm, hlen, hdata⟩ := h
  exact ⟨before, m, f, [], by rw [hbs, List.append_nil], hm, hlen, hdata⟩

theorem ContainsFrame.append {bs : List Byte} (h : ContainsFrame bs) (cs : List Byte) : ContainsFrame (bs ++ cs) := by
  obtain ⟨before, m, f, after, hbs, hm, hlen, hdata⟩ := h
  exact ⟨before, m, f, after ++ cs, by simp [hbs], hm, hlen, hdata⟩

/-- No frame is returned before a marker and 137 DATA bytes have been fed (41 R152). -/
theorem feedAll_frames_of_not_containsFrame {s : State} (hw : s.buf.wf = true) (hs : s.pos = .seek) {bs : List Byte}
    (h : ¬ ContainsFrame bs) : (feedAll bs s).out.frames = s.out.frames := by
  induction bs using List.reverseRecOn with
  | nil => rfl
  | append_singleton bs b ih =>
    have hbefore := ih fun hbs => h (hbs.append [b])
    rcases feed_frames_cases b (feedAll bs s) with hsame | ⟨f, hf⟩
    · rw [feedAll_concat, hsame, hbefore]
    · rw [← feedAll_concat] at hf
      exact absurd ((feedAll_returns_iff hw hs).mp hf).containsFrame h

/-! ### The output record -/

/-- The same machine with another output record (log 7). -/
def State.withOut (o : Output) (s : State) : State := { s with out := o }

@[simp] theorem State.withOut_pos (o : Output) (s : State) : (s.withOut o).pos = s.pos := rfl
@[simp] theorem State.withOut_out (o : Output) (s : State) : (s.withOut o).out = o := rfl

theorem framesOf_eq (bs : List Byte) (s : State) :
    framesOf bs s = (feedAll bs (s.withOut Output.empty)).out.frames := rfl

theorem framesOf_withOut (bs : List Byte) (o : Output) (s : State) : framesOf bs (s.withOut o) = framesOf bs s := rfl

/-- What a byte adds to the output does not depend on the output so far, and the rest of the machine does not either
(log 7). -/
theorem feed_withOut (b : Byte) (s : State) :
    ∃ es fs, ∀ o, feed b (s.withOut o) = (feed b s).withOut ⟨o.events ++ es, o.frames ++ fs, o.reply⟩ := by
  rcases feed_cases b s with ⟨hb, hf⟩ | ⟨hb, hp, hf⟩ | ⟨c, hb, hp, hc, hf⟩ | ⟨c, hb, hp, hc, hf⟩ <;> rw [hf]
  · refine ⟨[syncEvent s.pos], [], fun o => ?_⟩
    rw [feed_of_sync _ hb, List.append_nil]
    rfl
  · refine ⟨[.noiseDrop b], [], fun o => ?_⟩
    rw [feed_at_seek (s := s.withOut o) hb hp, List.append_nil]
    rfl
  · refine ⟨[.store c], [], fun o => ?_⟩
    rw [feed_at_collect (s := s.withOut o) hb hp hc, List.append_nil]
    rfl
  · refine ⟨[.frameComplete], [(s.buf.write 136 b).readBytes 0 137], fun o => ?_⟩
    rw [feed_at_last (s := s.withOut o) hb hp (by omega)]
    rfl

theorem feedAll_withOut (bs : List Byte) (s : State) :
    ∃ es fs, ∀ o, feedAll bs (s.withOut o) = (feedAll bs s).withOut ⟨o.events ++ es, o.frames ++ fs, o.reply⟩ := by
  induction bs generalizing s with
  | nil => exact ⟨[], [], fun o => by simp⟩
  | cons b bs ih =>
    obtain ⟨es, fs, hfirst⟩ := feed_withOut b s
    obtain ⟨es', fs', hrest⟩ := ih (feed b s)
    exact ⟨es ++ es', fs ++ fs', fun o => by simp [hfirst, hrest]⟩

/-- The frames that feeding adds to the output are the ones it returns (41 R149). -/
theorem feedAll_frames (bs : List Byte) (s : State) :
    (feedAll bs s).out.frames = s.out.frames ++ framesOf bs s := by
  obtain ⟨es, fs, h⟩ := feedAll_withOut bs s
  have hkept : (feedAll bs s).out.frames = s.out.frames ++ fs := congrArg (·.out.frames) (h s.out)
  have hreturned : framesOf bs s = fs := congrArg (·.out.frames) (h Output.empty)
  rw [hkept, hreturned]

/-- The frames returned later do not depend on the output so far (log 7). -/
theorem framesOf_feedAll_withOut (xs ys : List Byte) (o : Output) (s : State) :
    framesOf ys (feedAll xs (s.withOut o)) = framesOf ys (feedAll xs s) := by
  obtain ⟨es, fs, h⟩ := feedAll_withOut xs s
  rw [h, framesOf_withOut]

theorem framesOf_append (xs ys : List Byte) (s : State) :
    framesOf (xs ++ ys) s = framesOf xs s ++ framesOf ys (feedAll xs s) := by
  rw [framesOf_eq, feedAll_append, feedAll_frames, framesOf_feedAll_withOut, ← framesOf_eq]

/-! ### How many bytes a frame takes -/

/-- The bytes since the marker of the frame under way, the marker counted. -/
def positionBytes : Position → Nat
  | .seek => 0
  | .collect c => c.val + 1

/-- The bytes that the frames returned so far and the frame under way have taken (41 R153). -/
def State.bytesTaken (s : State) : Nat := 138 * s.out.frames.length + positionBytes s.pos

/-- One byte counts for one byte of one frame, and a frame is 138 of them. -/
theorem bytesTaken_feed_le (b : Byte) (s : State) : (feed b s).bytesTaken ≤ s.bytesTaken + 1 := by
  rcases feed_cases b s with ⟨_, hf⟩ | ⟨_, _, hf⟩ | ⟨c, _, hp, hc, hf⟩ | ⟨c, _, hp, hc, hf⟩ <;> rw [hf]
  · simp [State.bytesTaken, positionBytes]
  · simp [State.bytesTaken]
  · simp [State.bytesTaken, positionBytes, positionAfter_of_lt hc, hp]
    omega
  · simp [State.bytesTaken, positionBytes, hp, hc]
    omega

theorem bytesTaken_feedAll_le (bs : List Byte) (s : State) :
    (feedAll bs s).bytesTaken ≤ s.bytesTaken + bs.length := by
  induction bs generalizing s with
  | nil => exact le_rfl
  | cons b bs ih =>
    have hrest := ih (feed b s)
    have hfirst := bytesTaken_feed_le b s
    simp only [feedAll_cons, List.length_cons]
    omega

/-- DATA bytes that reach the end of the frame under way complete it, and the ones behind it complete no other: they
are dropped at `SEEK` (41 R153). -/
theorem length_frames_feedAll_of_data {s : State} {c : Fin 137} (hp : s.pos = .collect c) {ds : List Byte}
    (hdata : ds.all isData = true) (hlen : 137 ≤ c.val + ds.length) :
    (feedAll ds s).out.frames.length = s.out.frames.length + 1 := by
  induction ds generalizing s c with
  | nil => exact absurd hlen (by simp)
  | cons d ds ih =>
    simp only [List.all_cons, Bool.and_eq_true, isData_iff] at hdata
    obtain ⟨hd, hds⟩ := hdata
    rw [List.length_cons] at hlen
    rw [feedAll_cons]
    by_cases hc : c.val < 136
    · rw [feed_at_collect hd hp hc]
      exact ih (positionAfter_of_lt hc) hds (by dsimp only; omega)
    · rw [feed_at_last hd hp hc, feedAll_data_at_seek (completeFrame_pos d s) hds]
      simp

end Sys2Proof.Machine
end

section
/-!
PROOFS, 41_frame_synchronizer.md: the statements on the synchronizer.
-/

namespace Sys2Proof.Machine

/-- Settles O14: each row is the handoff of its byte, and the frame lists the snapshot. -/
theorem dataCompleteHandsOverTheFrame : Obligations.DataCompleteHandsOverTheFrame := by
  intro s hcan hp completes
  have hrow (q : DataPattern) : completes q.completeRow q.byte :=
    ⟨completeFrame q.byte s, (completeFrame q.byte s).snapFrame, exec_completeRow_at_last q hp, rfl, rfl,
      Memory.read_write_same (State.buf_wf_of_memoryCanonical hcan), fun _ hk => Memory.read_write_other hk,
      fun _ => rfl, Memory.readBytes_length _ _ _, fun _ hk => State.snapFrame_getElem? _ hk,
      ⟨rfl, rfl, rfl, rfl, rfl⟩, rfl, rfl⟩
  exact ⟨fun a b => hrow (.clear6 a b), fun a b d => hrow (.clear4 a b d), fun a b d => hrow (.clear3 a b d),
    fun a b d => hrow (.clear2 a b d)⟩

/-- Settles O16, row by row. -/
theorem dataRowsFeedAtEveryPosition : Obligations.DataRowsFeedAtEveryPosition :=
  fun s _ _ h => exec_of_encode_stream h s

/-- Settles O17: a stream row feeds its byte, by the arm of the position and the class. -/
theorem transitionsAreTheTable : Obligations.TransitionsAreTheTable := by
  refine ⟨fun s b hcan => ⟨feed b s, exec_decodeStream s.pos b s, ?_⟩,
    allPositions, length_allPositions, nodup_allPositions, mem_allPositions⟩
  have hw := State.buf_wf_of_memoryCanonical hcan
  cases hb : isSync b with
  | true =>
    rw [feed_of_sync s hb]
    cases s.pos <;> exact ⟨rfl, rfl, rfl, rfl, rfl⟩
  | false =>
    cases hp : s.pos with
    | seek =>
      rw [feed_at_seek hb hp]
      exact ⟨hp, rfl, rfl, rfl, rfl⟩
    | collect c =>
      dsimp only
      split_ifs with hc
      · rw [feed_at_collect hb hp hc]
        exact ⟨Memory.read_write_same hw, fun _ hk => Memory.read_write_other hk, positionAfter_of_lt hc, rfl,
          rfl, rfl⟩
      · obtain rfl : c = 136 := Fin.ext (by omega)
        rw [feed_at_last hb hp hc]
        exact ⟨Memory.read_write_same hw, fun _ hk => Memory.read_write_other hk, rfl, rfl, rfl, rfl⟩

/-- Settles O19: what feeding returns does not depend on the output so far, and every burst is fed as its bytes. -/
theorem chunkingDoesNotChangeFrames : Obligations.ChunkingDoesNotChangeFrames :=
  ⟨fun s xs ys => framesOf_append xs ys s, fun _ _ bs hp hq =>
    (step_eq_runEncoded hp (fetch_burst_of_not_paused bs hq)).trans (runEncoded_burst bs _)⟩

/-- Settles O21, from the byte that returns a frame. -/
theorem frameIffMarkerAnd137DataBytes : Obligations.FrameIffMarkerAnd137DataBytes :=
  fun _ _ _ _ hcan hs => feedAll_returns_iff (State.buf_wf_of_memoryCanonical hcan) hs

/-- Settles O22: no frame is returned, so none has completed, and every reader is still behind the gate. -/
theorem noFrameWithoutMarkerAnd137DataBytes : Obligations.NoFrameWithoutMarkerAnd137DataBytes := by
  intro bs h
  have hframes : (feedAll bs State.reset).out.frames = [] :=
    feedAll_frames_of_not_containsFrame (s := State.reset) rfl rfl h
  have hdata : (feedAll bs State.reset).hasData = false := by
    rcases feedAll_completion bs State.reset with hnone | hshows
    · exact hnone.hasData
    · exact absurd hframes hshows.frames_ne_nil
  obtain ⟨_, hdecode, hrecon, _⟩ := noSnapshotReaderBeforeData _ hdata
  exact ⟨hframes, hdata, hrecon, hdecode⟩

/-- Settles O23: every byte counts once, and a collection at 0 ends after 137 DATA bytes. -/
theorem atMostOneFramePer138Bytes : Obligations.AtMostOneFramePer138Bytes := by
  refine ⟨fun s bs hs => ?_, fun s m ds hm hdata hlen => ?_⟩
  · have hstart : (s.withOut Output.empty).bytesTaken = 0 := by
      rw [State.bytesTaken, State.withOut_pos, hs]
      rfl
    have htaken := bytesTaken_feedAll_le bs (s.withOut Output.empty)
    rw [hstart, Nat.zero_add, State.bytesTaken] at htaken
    exact (Nat.le_add_right _ _).trans htaken
  · rw [framesOf_eq, feedAll_cons, feed_of_sync _ hm,
      length_frames_feedAll_of_data (c := 0) rfl hdata (by simpa using hlen)]
    rfl

/-- Settles O8: where no byte is taken, the start of the step is the whole step. -/
theorem noFeedWithoutByteOrWhilePaused : Obligations.NoFeedWithoutByteOrWhilePaused :=
  fun _ _ => ⟨fun hp => step_of_fetched_none hp rfl,
    fun b hp hq => step_of_fetched_none hp (fetch_poll_of_paused b hq),
    fun bs hp hq => step_of_fetched_none hp (fetch_burst_of_paused bs hq), step_idle⟩

/-- Settles O12: the arm of a marker, which reads none of its free bits. -/
theorem syncRestartsCollection : Obligations.SyncRestartsCollection := by
  intro s a b cc
  rw [exec_sync]
  rfl

/-- Settles O13: each row stores its byte at the cursor. -/
theorem dataStoreWritesCellAndAdvances : Obligations.DataStoreWritesCellAndAdvances := by
  intro s c hc hcan hp stores
  have hrow (q : DataPattern) : stores q.storeRow q.byte :=
    ⟨storeByte q.byte c s, exec_storeRow_at_collect q hp hc, positionAfter_of_lt hc,
      Memory.read_write_same (State.buf_wf_of_memoryCanonical hcan), fun _ hk => Memory.read_write_other hk,
      rfl, rfl, ⟨rfl, rfl, rfl, rfl, rfl⟩, rfl, rfl⟩
  exact ⟨fun a b => hrow (.clear6 a b), fun a b d => hrow (.clear4 a b d), fun a b d => hrow (.clear3 a b d),
    fun a b d => hrow (.clear2 a b d)⟩

/-- Settles O15: each row raises its label, with its byte in it. -/
theorem dataDropChangesNothing : Obligations.DataDropChangesNothing := by
  intro s hp drops
  have hrow (q : DataPattern) : drops q.dropRow q.byte := exec_dropRow_at_seek q hp
  exact ⟨fun a b => hrow (.clear6 a b), fun a b d => hrow (.clear4 a b d), fun a b d => hrow (.clear3 a b d),
    fun a b d => hrow (.clear2 a b d)⟩

end Sys2Proof.Machine
end

section
/-!
PROOFS, 92_eei_decisions.md D15: the free values of the timebase table are within its bounds (log 10).
-/

namespace Sys2Proof.Config

/-- A running maximum is bounded by what bounds its start and every value it meets. -/
theorem foldl_max_le_iff {α : Type} (f : α → ℝ) {l : List α} {a c : ℝ} :
    l.foldl (fun m k => max m (f k)) a ≤ c ↔ a ≤ c ∧ ∀ k ∈ l, f k ≤ c := by
  induction l generalizing a with
  | nil => simp
  | cons x l ih => simp [ih, and_assoc]

theorem slowestTimebase_le_iff {c : ℝ} :
    slowestTimebase ≤ c ↔ 50 / 10 ^ 9 ≤ c ∧ ∀ k, positiveTimebase k ≤ c := by
  norm_num [slowestTimebase, foldl_max_le_iff]

theorem timebase0_le_slowestTimebase : 50 / 10 ^ 9 ≤ slowestTimebase :=
  (slowestTimebase_le_iff.mp le_rfl).1

theorem positiveTimebase_le_slowestTimebase (k : Fin 9) : positiveTimebase k ≤ slowestTimebase :=
  (slowestTimebase_le_iff.mp le_rfl).2 k

theorem positiveTimebase_pos (k : Fin 9) : 0 < positiveTimebase k := by
  unfold positiveTimebase
  split_ifs with h
  · exact h
  · norm_num

theorem freeSeconds_last : freeSeconds 8 = slowestTimebase := if_pos rfl

/-- Each free value is positive: the last because `TIMEBASE[0]` is not above it. -/
theorem freeSeconds_pos (k : Fin 9) : 0 < freeSeconds k := by
  unfold freeSeconds
  split_ifs
  · exact lt_of_lt_of_le (by norm_num) timebase0_le_slowestTimebase
  · exact positiveTimebase_pos k

theorem freeSeconds_le_slowestTimebase (k : Fin 9) : freeSeconds k ≤ slowestTimebase := by
  unfold freeSeconds
  split_ifs
  · exact le_rfl
  · exact positiveTimebase_le_slowestTimebase k

end Sys2Proof.Config
end

section
/-!
PROOFS, 42_frame_decoder.md, what the statements on the decoder share: each component as a function of its header byte
(R181 to R184), what a header row and DECODE leave once there is a frame (R180), the bits that a component reads (R185),
and the real values of the timebase table (R184).
-/

namespace Sys2Proof.Machine

/-! ### The components of the header -/

/-- The coupling table gives each label the code it stands at (30 R95, 42 R181). -/
theorem couplingCode_couplingOf (h0 : Byte) : couplingCode (couplingOf h0) = bitsOf h0 4 2 := by
  unfold couplingOf
  generalize bitsOf h0 4 2 = code
  revert code
  decide

theorem couplingLabel_at_code (c : Coupling) :
    ["GND", "AC", "DC", "?"][(couplingCode c).toNat]? = some (couplingLabel c) := by
  cases c <;> rfl

/-- The range table gives each label the code it stands at (30 R95, 42 R182). -/
theorem rangeCode_rangeOf (h0 : Byte) : rangeCode (rangeOf h0) = bitsOf h0 2 2 := by
  unfold rangeOf
  generalize bitsOf h0 2 2 = code
  revert code
  decide

theorem rangeLabel_at_code (r : VoltRange) :
    ["1", "10", "100", "?"][(rangeCode r).toNat]? = some (rangeLabel r) := by
  cases r <;> rfl

/-- The first set flag of `h2` decides the text (42 R183). -/
theorem triggerLabel_triggerOf (h2 : Byte) :
    triggerLabel (triggerOf h2) =
      if h2.toNat.testBit 6 then "+INTERNAL" else if h2.toNat.testBit 5 then "−INTERNAL"
      else if h2.toNat.testBit 4 then "+EXTERNAL" else if h2.toNat.testBit 3 then "−EXTERNAL"
      else "AUTO" := by
  simp only [triggerOf, BitVec.testBit_toNat]
  split_ifs <;> rfl

theorem timebaseIndexOf_val (h1 : Byte) : (timebaseIndexOf h1).val = min h1.toNat 9 := by
  unfold timebaseIndexOf
  split_ifs with h
  · exact (min_eq_left (Nat.le_of_lt_succ h)).symm
  · exact (min_eq_right (by omega)).symm

/-! ### The rows and DECODE once there is a frame -/

section
variable {s : State}

theorem replyCoupling_of_data (c : Coupling) (h : s.hasData = true) :
    replyCoupling c s = .next ((s.raiseIfReserved .coupling (c == .reserved)).answer (.coupling c)) :=
  withFrame_of_data _ h

theorem replyRange_of_data (r : VoltRange) (h : s.hasData = true) :
    replyRange r s = .next ((s.raiseIfReserved .range (r == .reserved)).answer (.range r)) :=
  withFrame_of_data _ h

theorem replyTrigger_of_data (g : Trigger) (h : s.hasData = true) :
    replyTrigger g s = .next (s.answer (.trigger g)) :=
  withFrame_of_data _ h

theorem replyTimebase_of_data (k : Fin 10) (h : s.hasData = true) :
    replyTimebase k s = .next (s.answer (.timebase k (timebaseSeconds s.build k))) :=
  withFrame_of_data _ h

theorem exec_decodeHeader_coupling (h0 : Byte) (h : s.hasData = true) :
    exec (decodeHeader .coupling h0) s =
      .next ((s.raiseIfReserved .coupling (couplingOf h0 == .reserved)).answer (.coupling (couplingOf h0))) :=
  (exec_decodeCoupling h0 s).trans (replyCoupling_of_data _ h)

theorem exec_decodeHeader_range (h0 : Byte) (h : s.hasData = true) :
    exec (decodeHeader .range h0) s =
      .next ((s.raiseIfReserved .range (rangeOf h0 == .reserved)).answer (.range (rangeOf h0))) :=
  (exec_decodeRange h0 s).trans (replyRange_of_data _ h)

theorem exec_decodeHeader_trigger (h2 : Byte) (h : s.hasData = true) :
    exec (decodeHeader .trigger h2) s = .next (s.answer (.trigger (triggerOf h2))) :=
  (exec_decodeTrigger h2 s).trans (replyTrigger_of_data _ h)

theorem exec_decodeHeader_timebase (h1 : Byte) (h : s.hasData = true) :
    exec (decodeHeader .timebase h1) s =
      .next (s.answer (.timebase (timebaseIndexOf h1) (timebaseSeconds s.build (timebaseIndexOf h1)))) :=
  (exec_decodeTimebase h1 s).trans (replyTimebase_of_data _ h)

end

/-- What DECODE leaves: the labels of the two fields with code 3, and the record (42 R180, 60 R248). -/
def State.decoded (s : State) : State :=
  ((s.raiseIfReserved .coupling (couplingOf (s.snap.read 0) == .reserved)).raiseIfReserved .range
    (rangeOf (s.snap.read 0) == .reserved)).answer
      (.config (configOf s.build (s.snap.read 0) (s.snap.read 1) (s.snap.read 2)))

theorem execDecode_of_data {s : State} (h : s.hasData = true) : execDecode s = .next s.decoded :=
  withFrame_of_data _ h

theorem execDecode_next {s t : State} (h : execDecode s = .next t) : t = s.decoded :=
  (Host.Outcome.next.inj (withFrame_next h).2).symm

theorem State.decoded_reply (s : State) :
    s.decoded.out.reply = .config (configOf s.build (s.snap.read 0) (s.snap.read 1) (s.snap.read 2)) := rfl

theorem State.decoded_events (s : State) :
    s.decoded.out.events = s.out.events
      ++ (if couplingOf (s.snap.read 0) = .reserved then [.reservedHeaderCode .coupling] else [])
      ++ (if rangeOf (s.snap.read 0) = .reserved then [.reservedHeaderCode .range] else []) := by
  simp [State.decoded, State.raiseIfReserved_out]

/-! ### The bits that a component reads -/

/-- Bytes that agree in a range of bits agree in each bit of it. -/
theorem getLsbD_eq_of_extractLsb'_eq {b b' : Byte} {lo n : Nat} (h : b.extractLsb' lo n = b'.extractLsb' lo n)
    {i : Nat} (hlo : lo ≤ i) (hhi : i < lo + n) : b.getLsbD i = b'.getLsbD i := by
  have hbit := congrArg (BitVec.getLsbD · (i - lo)) h
  simpa [BitVec.getLsbD_extractLsb', show i - lo < n by omega, show lo + (i - lo) = i by omega] using hbit

/-- Bytes that agree in a range of bits agree in each field inside it. -/
theorem bitsOf_eq_of_extractLsb'_eq {b b' : Byte} {lo n : Nat} (h : b.extractLsb' lo n = b'.extractLsb' lo n)
    {i m : Nat} (hlo : lo ≤ i) (hhi : i + m ≤ lo + n) : bitsOf b i m = bitsOf b' i m := by
  refine BitVec.eq_of_getLsbD_eq fun j hj => ?_
  simp only [bitsOf, BitVec.getLsbD_extractLsb', getLsbD_eq_of_extractLsb'_eq h (show lo ≤ i + j by omega)
    (show i + j < lo + n by omega)]

theorem couplingOf_congr {h0 h0' : Byte} (h : h0.extractLsb' 2 4 = h0'.extractLsb' 2 4) :
    couplingOf h0 = couplingOf h0' := by
  simp only [couplingOf, bitsOf_eq_of_extractLsb'_eq h (show 2 ≤ 4 by decide) (show 4 + 2 ≤ 2 + 4 by decide)]

theorem rangeOf_congr {h0 h0' : Byte} (h : h0.extractLsb' 2 4 = h0'.extractLsb' 2 4) :
    rangeOf h0 = rangeOf h0' := by
  simp only [rangeOf, bitsOf_eq_of_extractLsb'_eq h (show 2 ≤ 2 by decide) (show 2 + 2 ≤ 2 + 4 by decide)]

theorem triggerOf_congr {h2 h2' : Byte} (h : h2.extractLsb' 3 4 = h2'.extractLsb' 3 4) :
    triggerOf h2 = triggerOf h2' := by
  have hbit (i : Nat) (hi : 3 ≤ i ∧ i < 7) : h2.getLsbD i = h2'.getLsbD i :=
    getLsbD_eq_of_extractLsb'_eq h hi.1 hi.2
  rw [triggerOf, triggerOf, hbit 6 (by decide), hbit 5 (by decide), hbit 4 (by decide), hbit 3 (by decide)]

/-- The record depends on no other bit of the header (42 R185). -/
theorem configOf_congr (bd : Build) {h0 h0' h2 h2' : Byte} (h1 : Byte)
    (hh0 : h0.extractLsb' 2 4 = h0'.extractLsb' 2 4) (hh2 : h2.extractLsb' 3 4 = h2'.extractLsb' 3 4) :
    configOf bd h0 h1 h2 = configOf bd h0' h1 h2' := by
  simp only [configOf, couplingOf_congr hh0, rangeOf_congr hh0, triggerOf_congr hh2]

/-! ### The timebase table -/

theorem secondsToReal_timebaseSeconds_zero (bd : Build) :
    secondsToReal (timebaseSeconds bd 0) = 50 / 10 ^ 9 := by
  norm_num [timebaseSeconds, Config.timebase0, secondsToReal]

theorem secondsToReal_build_succ (k : Fin 9) :
    secondsToReal (timebaseSeconds Config.build k.succ) = Config.freeSeconds k := by
  simp [timebaseSeconds, Config.build, secondsToReal]

end Sys2Proof.Machine
end

section
/-!
PROOFS, 42_frame_decoder.md: the statements on the decoder.
-/

namespace Sys2Proof.Machine

/-- Settles O31: DECODE computes each component by the function its own row computes it by. -/
theorem decodeComposesTheFourFields : Obligations.DecodeComposesTheFourFields := by
  intro s h
  have hreads := execDecode_readsOnly (execDecode_of_data h)
  exact ⟨s.decoded, _, execDecode_of_data h, hreads.sync, hreads.inputs, hreads.ports, hreads.frames,
    s.decoded_reply, s.decoded_events, ⟨_, exec_decodeHeader_coupling _ h, rfl⟩,
    ⟨_, exec_decodeHeader_range _ h, rfl⟩, ⟨_, exec_decodeHeader_trigger _ h, rfl⟩,
    ⟨_, exec_decodeHeader_timebase _ h, rfl⟩⟩

/-- Settles O32: the reply is the record, and the record reads no unassigned bit. -/
theorem decodeIgnoresUnassignedBits : Obligations.DecodeIgnoresUnassignedBits := by
  intro s s' t t' hbuild hh0 hh1 hh2 ht ht'
  rw [execDecode_next ht, execDecode_next ht', State.decoded_reply, State.decoded_reply, hbuild, hh1,
    configOf_congr s'.build (s'.snap.read 1) hh0 hh2]

/-- Settles O27: the rows by their own labels, and a byte by the code of its field. -/
theorem couplingRowsReplyTheirLabel : Obligations.CouplingRowsReplyTheirLabel := by
  intro s h
  refine ⟨fun _ _ _ => replyCoupling_of_data .gnd h, fun _ _ _ => replyCoupling_of_data .ac h,
    fun _ _ _ => replyCoupling_of_data .dc h, fun _ _ _ => replyCoupling_of_data .reserved h, fun h0 => ?_⟩
  have hcode : (couplingCode (couplingOf h0)).toNat = h0.toNat / 16 % 4 := by
    rw [couplingCode_couplingOf]
    exact toNat_bitsOf h0 4 2
  exact ⟨_, _, exec_decodeHeader_coupling h0 h, rfl, hcode, hcode ▸ couplingLabel_at_code _⟩

/-- Settles O28: the rows by their own labels, and a byte by the code of its field. -/
theorem rangeRowsReplyTheirLabel : Obligations.RangeRowsReplyTheirLabel := by
  intro s h
  refine ⟨fun _ _ _ => replyRange_of_data .one h, fun _ _ _ => replyRange_of_data .ten h,
    fun _ _ _ => replyRange_of_data .hundred h, fun _ _ _ => replyRange_of_data .reserved h, fun h0 => ?_⟩
  have hcode : (rangeCode (rangeOf h0)).toNat = h0.toNat / 4 % 4 := by
    rw [rangeCode_rangeOf]
    exact toNat_bitsOf h0 2 2
  exact ⟨_, _, exec_decodeHeader_range h0 h, rfl, hcode, hcode ▸ rangeLabel_at_code _⟩

/-- Settles O29: each row answers the entry of its index, and a byte the entry of `min(h1, 9)`. -/
theorem timebaseRowsReplyTheirEntry : Obligations.TimebaseRowsReplyTheirEntry := by
  intro s h replies
  have hrow (k : Fin 10) := replyTimebase_of_data k h
  exact ⟨⟨hrow 0, hrow 1, hrow 2, hrow 3, hrow 4, hrow 5, hrow 6, hrow 7, hrow 8, hrow 9⟩,
    ⟨fun _ => hrow 9, fun _ => hrow 9, fun _ => hrow 9, fun _ => hrow 9, fun _ => hrow 9, fun _ => hrow 9⟩,
    fun h1 => ⟨timebaseIndexOf h1, timebaseIndexOf_val h1, exec_decodeHeader_timebase h1 h⟩,
    secondsToReal_timebaseSeconds_zero s.build, fun _ hk => dif_pos hk⟩

/-- Settles O30: the rows by their own labels, and a byte by its first set flag. -/
theorem triggerRowsReplyByPriority : Obligations.TriggerRowsReplyByPriority := by
  intro s h replies
  exact ⟨⟨fun _ _ _ => replyTrigger_of_data .plusInternal h, fun _ _ _ => replyTrigger_of_data .minusInternal h,
      fun _ _ _ => replyTrigger_of_data .plusExternal h, fun _ _ => replyTrigger_of_data .minusExternal h,
      fun _ _ => replyTrigger_of_data .auto h⟩,
    fun h2 => ⟨triggerOf h2, exec_decodeHeader_trigger h2 h, triggerLabel_triggerOf h2⟩⟩

/-- Settles O59: entry 0 is a constant, and the free values are positive with the last of them the maximum. -/
theorem resetTimebaseMeetsItsConstraints : Obligations.ResetTimebaseMeetsItsConstraints := by
  have hlast : secondsToReal (timebaseSeconds Config.build 9) = Config.slowestTimebase :=
    (secondsToReal_build_succ 8).trans Config.freeSeconds_last
  refine ⟨fun k => ?_, fun k => le_of_le_of_eq ?_ hlast.symm⟩
  · cases k using Fin.cases with
    | zero =>
      rw [secondsToReal_timebaseSeconds_zero]
      norm_num
    | succ k => exact (Config.freeSeconds_pos k).trans_eq (secondsToReal_build_succ k).symm
  · cases k using Fin.cases with
    | zero => exact (secondsToReal_timebaseSeconds_zero _).trans_le Config.timebase0_le_slowestTimebase
    | succ k => exact (secondsToReal_build_succ k).trans_le (Config.freeSeconds_le_slowestTimebase k)

end Sys2Proof.Machine
end

section
/-!
PROOFS, 43_waveform_reconstructor.md, what the statements on the reconstructor share: the real value of the exact
arithmetic (R222), the readers' replies once their gates are open (R33, U13), the positions (R211), the amplitude as a
sum over the taps (R212, R213), where the weights are rational numbers (R219), and the points (R210).
-/

namespace Sys2Proof.Machine

/-! ### The exact arithmetic (R222) -/

@[simp] theorem termsToReal_nil : termsToReal [] = 0 := rfl

@[simp] theorem termsToReal_cons (t : Rat × Rat) (ts : List (Rat × Rat)) :
    termsToReal (t :: ts) = (t.1 : ℝ) * (realSinc (t.2 : ℝ) * realSinc ((t.2 : ℝ) / 3)) + termsToReal ts := by
  simp [termsToReal]

/-- A term that is inserted adds its value, in each way of keeping the list canonical. -/
theorem termsToReal_insertTerm (c a : Rat) (ts : List (Rat × Rat)) :
    termsToReal (insertTerm c a ts) = termsToReal ((c, a) :: ts) := by
  induction ts with
  | nil =>
    rw [insertTerm]
    split_ifs with hc <;> simp [hc]
  | cons t rest ih =>
    obtain ⟨c', a'⟩ := t
    rw [insertTerm]
    split_ifs with hc hlt heq hsum
    · simp [hc]
    · rfl
    · have hcancel : (c : ℝ) + (c' : ℝ) = 0 := by exact_mod_cast hsum
      simp only [heq, termsToReal_cons]
      linear_combination -(realSinc (a' : ℝ) * realSinc ((a' : ℝ) / 3)) * hcancel
    · simp only [heq, termsToReal_cons, Rat.cast_add]
      ring
    · simp only [termsToReal_cons, ih]
      ring

theorem termsToReal_foldl_insertTerm (us ts : List (Rat × Rat)) :
    termsToReal (us.foldl (fun ts t => insertTerm t.1 t.2 ts) ts) = termsToReal us + termsToReal ts := by
  induction us generalizing ts with
  | nil => simp
  | cons u us ih =>
    simp only [List.foldl_cons, ih, termsToReal_insertTerm, termsToReal_cons]
    ring

theorem termsToReal_map_mul (q : Rat) (ts : List (Rat × Rat)) :
    termsToReal (ts.map fun t => (q * t.1, t.2)) = (q : ℝ) * termsToReal ts := by
  induction ts with
  | nil => simp
  | cons t ts ih =>
    simp only [List.map_cons, termsToReal_cons, ih, Rat.cast_mul]
    ring

@[simp] theorem numToReal_addNum (x y : ExactNum) : numToReal (addNum x y) = numToReal x + numToReal y := by
  simp only [numToReal, addNum, termsToReal_foldl_insertTerm, Rat.cast_add]
  ring

@[simp] theorem numToReal_scaleNum (q : Rat) (x : ExactNum) :
    numToReal (scaleNum q x) = (q : ℝ) * numToReal x := by
  by_cases hq : q = 0
  · simp [scaleNum, hq]
  · simp only [numToReal, scaleNum, if_neg hq, termsToReal_map_mul, Rat.cast_mul]
    ring

@[simp] theorem addNum_ratNum (p q : Rat) : addNum (ratNum p) (ratNum q) = ratNum (p + q) := rfl

@[simp] theorem scaleNum_ratNum (q p : Rat) : scaleNum q (ratNum p) = ratNum (q * p) := by
  by_cases hq : q = 0
  · simp [scaleNum, hq]
  · simp [scaleNum, hq, ratNum]

theorem numToReal_foldl_addNum (f : ℤ → ExactNum) (js : List ℤ) (x : ExactNum) :
    numToReal (js.foldl (fun acc j => addNum acc (f j)) x) = numToReal x + (js.map fun j => numToReal (f j)).sum := by
  induction js generalizing x with
  | nil => simp
  | cons j js ih => simp [ih, add_assoc]

/-- A sum of rational numbers stays one. -/
theorem foldl_addNum_of_ratNum {f : ℤ → ExactNum} {w : ℤ → Rat} {js : List ℤ} (h : ∀ j ∈ js, f j = ratNum (w j))
    (q : Rat) : js.foldl (fun acc j => addNum acc (f j)) (ratNum q) = ratNum (q + (js.map w).sum) := by
  induction js generalizing q with
  | nil => simp
  | cons j js ih =>
    obtain ⟨hj, hjs⟩ := List.forall_mem_cons.mp h
    simp [hj, ih hjs, add_assoc]

/-! ### The readers' replies once their gates are open (10 R33, U13) -/

section
variable {s : State} {o : Int}

/-- With a frame there, the gate on the oversample factor is left. -/
theorem exec_recon_of_data {oversample : Option Int} (hd : s.hasData = true) :
    exec (.recon oversample) s
      = withOversample (oversample.getD 5)
          (.next (s.replyPoints (reconstruct s.build s.sample s.deltaX s.deltaY (oversample.getD 5)))) := by
  rw [exec_recon, execRecon, withFrame_of_data _ hd]
  rfl

theorem exec_recon_of_data_of_pos {oversample : Option Int} (hd : s.hasData = true) (ho : 1 ≤ oversample.getD 5) :
    exec (.recon oversample) s
      = .next (s.replyPoints (reconstruct s.build s.sample s.deltaX s.deltaY (oversample.getD 5))) :=
  (exec_recon_of_data hd).trans (withOversample_of_pos _ ho)

theorem exec_reconPositions_of_pos (ho : 1 ≤ o) :
    exec (.reconPositions o) s = .next (s.answer (.positions (positions s.build.positionsEnd o))) :=
  withOversample_of_pos _ ho

theorem exec_reconAmplitude_of_data (i : Int) (hd : s.hasData = true) :
    exec (.reconAmplitude i o) s
      = withOversample o (.next (s.answer (.number (amplitude s.build.kernel s.sample i o)))) := by
  rw [exec_reconAmplitude, execReconAmplitude, withFrame_of_data _ hd]

theorem exec_reconAmplitude_of_data_of_pos (i : Int) (hd : s.hasData = true) (ho : 1 ≤ o) :
    exec (.reconAmplitude i o) s = .next (s.answer (.number (amplitude s.build.kernel s.sample i o))) :=
  (exec_reconAmplitude_of_data i hd).trans (withOversample_of_pos _ ho)

theorem exec_reconXcoord_of_pos (i deltaX : Int) (ho : 1 ≤ o) :
    exec (.reconXcoord i deltaX o) s = .next (s.answer (.number (ratNum (xcoord i deltaX o)))) :=
  withOversample_of_pos _ ho

end

/-! ### The positions (R211) -/

theorem mem_positions_iff {e : PositionsEnd} {o i : Int} :
    i ∈ positions e o ↔ -o ≤ i ∧ i < positionsEndOf e o := by
  simp only [positions, positionsBegin, List.mem_map, List.mem_range]
  constructor
  · rintro ⟨k, hk, rfl⟩
    omega
  · intro h
    exact ⟨(i + o).toNat, by omega, by omega⟩

theorem pairwise_positions (e : PositionsEnd) (o : Int) : (positions e o).Pairwise (· < ·) := by
  refine List.pairwise_lt_range.map _ fun j k hjk => ?_
  omega

theorem length_positions (e : PositionsEnd) (o : Int) : (positions e o).length = (positionsEndOf e o + o).toNat := by
  simp [positions, positionsBegin]

theorem positions_getElem?_eq_some {e : PositionsEnd} {o i : Int} {k : Nat} (h : (positions e o)[k]? = some i) :
    i = -o + (k : Int) := by
  simp only [positions, positionsBegin, List.getElem?_map, Option.map_eq_some_iff, List.getElem?_eq_some_iff,
    List.getElem_range] at h
  obtain ⟨_, ⟨_, rfl⟩, rfl⟩ := h
  rfl

/-! ### The amplitude as a sum over the taps (R212, R213) -/

theorem clamp_eq_max_min (j : Int) : clamp j 0 127 = max 0 (min j 127) := by
  rw [clamp]
  split_ifs <;> omega

theorem clamp_mem_samples (j : Int) : (clamp j 0 127).toNat < 128 := by
  rw [clamp_eq_max_min]
  omega

theorem cast_sampleValue (samples : Nat → Byte) (j : Int) :
    (sampleValue samples j : ℝ) = ((samples (clamp j 0 127).toNat).toNat : ℝ) / 64 := by
  simp [sampleValue, Config.divisor]

/-- The machine's tap index is the floor of `p = i / O`, since `O` is at least 1. -/
theorem floor_fractionalIndex (i : Int) {o : Int} (ho : 1 ≤ o) : ⌊fractionalIndex i o⌋ = i / o := by
  rw [fractionalIndex, Int.floor_div_cast_of_nonneg (by omega), Int.floor_intCast]

theorem cast_fractionalIndex (i o : Int) : (fractionalIndex i o : ℝ) = (i : ℝ) / (o : ℝ) := by
  simp [fractionalIndex]

theorem numToReal_tapTerm (k : KernelFamily) (samples : Nat → Byte) (i o j : Int) :
    numToReal (tapTerm k samples (fractionalIndex i o) j)
      = realKernel k ((i : ℝ) / (o : ℝ) - (j : ℝ)) * (((samples (clamp j 0 127).toNat).toNat : ℝ) / 64) := by
  rw [tapTerm, numToReal_scaleNum, numToReal_kernelAt, cast_sampleValue, Rat.cast_sub, cast_fractionalIndex,
    Rat.cast_intCast, mul_comm]

/-- The taps of the machine are the whole support, and outside it the weights are 0 (R213). -/
theorem numToReal_amplitude (k : KernelFamily) (samples : Nat → Byte) (i : Int) {o : Int} (ho : 1 ≤ o) :
    numToReal (amplitude k samples i o) = realAmplitude k samples i o := by
  have hfloor : ⌊(i : ℝ) / (o : ℝ)⌋ = i / o := by
    rw [← cast_fractionalIndex, Rat.floor_cast, floor_fractionalIndex i ho]
  have hterm (j : ℤ) : (∑ᶠ _ : |(i : ℝ) / (o : ℝ) - (j : ℝ)| < (supportRadius k : ℝ),
      realKernel k ((i : ℝ) / (o : ℝ) - (j : ℝ)) * (((samples (clamp j 0 127).toNat).toNat : ℝ) / 64))
        = realKernel k ((i : ℝ) / (o : ℝ) - (j : ℝ)) * (((samples (clamp j 0 127).toNat).toNat : ℝ) / 64) := by
    rw [finsum_eq_if, ite_eq_left_iff, not_lt]
    intro hbeyond
    rw [realKernel_beyond hbeyond, zero_mul]
  rw [realAmplitude, finsum_congr hterm,
    finsum_eq_sum_taps (k := k) fun j hbeyond => by rw [realKernel_beyond hbeyond, zero_mul], hfloor, amplitude,
    numToReal_foldl_addNum]
  simp [numToReal_tapTerm]

/-! ### Positions whose weights are rational numbers (R219) -/

/-- The weight at `p - j` is the rational number `w j` for every integer `j`, and over the taps these sum to 1. -/
structure RationalWeights (k : KernelFamily) (p : Rat) (w : ℤ → Rat) : Prop where
  kernel : ∀ j : ℤ, kernelAt k (p - (j : Rat)) = ratNum (w j)
  sum : ((taps k ⌊p⌋).map w).sum = 1

/-- The partition of unity of the B-spline (40 R114) on the machine's rational offsets. -/
theorem rationalWeights_bspline3 (p : Rat) :
    RationalWeights .bspline3 p fun j => bspline3 (p - (j : Rat)) where
  kernel _ := rfl
  sum := by
    have htaps := finsum_eq_sum_taps (x := (p : ℝ)) fun _ => realKernel_beyond (k := .bspline3)
    simp only [realKernel, finsum_realBspline3, Rat.floor_cast] at htaps
    apply Rat.cast_injective (α := ℝ)
    simp [Rat.cast_list_sum, cast_bspline3, Function.comp_def, ← htaps]

/-- At an integer `p` only the sample at `p` has a weight (40 R117 (a), (b)). -/
theorem rationalWeights_lanczos3_intCast (n : ℤ) :
    RationalWeights .lanczos3 (n : Rat) fun j => if j = n then 1 else 0 where
  kernel j := by
    split_ifs with h
    · simp [kernelAt, h, lanczos3_zero]
    · have hne : (n : Rat) - (j : Rat) ≠ 0 := by
        rw [sub_ne_zero]
        exact_mod_cast Ne.symm h
      exact lanczos3_of_den_eq_one hne (by rw [← Int.cast_sub, ← Int.cast_abs]; rfl)
  sum := by
    simp [taps]

theorem fractionalIndex_of_dvd {i o : Int} (ho : 1 ≤ o) (h : o ∣ i) : fractionalIndex i o = ((i / o : ℤ) : Rat) :=
  (Int.cast_div h (by exact_mod_cast (by omega : o ≠ 0))).symm

/-- Where the samples at the taps that have a weight are all `v`, the amplitude is `v`. -/
theorem amplitude_eq_of_rationalWeights {k : KernelFamily} {samples : Nat → Byte} {i o : Int} {w : ℤ → Rat} {v : Rat}
    (ho : 1 ≤ o) (hw : RationalWeights k (fractionalIndex i o) w)
    (hv : ∀ j ∈ taps k (i / o), w j = 0 ∨ sampleValue samples j = v) : amplitude k samples i o = ratNum v := by
  have hterm : ∀ j ∈ taps k (i / o), tapTerm k samples (fractionalIndex i o) j = ratNum (w j * v) := by
    intro j hj
    rw [tapTerm, hw.kernel, scaleNum_ratNum]
    rcases hv j hj with h0 | hj
    · simp [h0]
    · rw [hj, mul_comm]
  have hsum := hw.sum
  rw [floor_fractionalIndex i ho] at hsum
  rw [amplitude, foldl_addNum_of_ratNum hterm, List.sum_map_mul_right, hsum, zero_add, one_mul]

theorem sampleValue_of_constant {samples : Nat → Byte} {v : Byte} (h : ∀ n, n < 128 → samples n = v) (j : Int) :
    sampleValue samples j = (v.toNat : Rat) / 64 := by
  rw [sampleValue, h _ (clamp_mem_samples j), Config.divisor]

theorem sampleValue_of_nonpos (samples : Nat → Byte) {j : Int} (h : j ≤ 0) :
    sampleValue samples j = ((samples 0).toNat : Rat) / 64 := by
  have hclamp : (clamp j 0 127).toNat = 0 := by
    rw [clamp_eq_max_min]
    omega
  rw [sampleValue, hclamp, Config.divisor]

theorem sampleValue_of_last_le (samples : Nat → Byte) {j : Int} (h : 127 ≤ j) :
    sampleValue samples j = ((samples 127).toNat : Rat) / 64 := by
  have hclamp : (clamp j 0 127).toNat = 127 := by
    rw [clamp_eq_max_min]
    omega
  rw [sampleValue, hclamp, Config.divisor]

/-- "A constant input is reproduced exactly" (R219). -/
theorem amplitude_of_constant {k : KernelFamily} {samples : Nat → Byte} {v : Byte} {i o : Int} (ho : 1 ≤ o)
    (hk : k = .bspline3 ∨ o ∣ i) (hv : ∀ n, n < 128 → samples n = v) :
    amplitude k samples i o = ratNum ((v.toNat : Rat) / 64) := by
  have hvalue (w : ℤ → Rat) : ∀ j ∈ taps k (i / o), w j = 0 ∨ sampleValue samples j = (v.toNat : Rat) / 64 :=
    fun j _ => .inr (sampleValue_of_constant hv j)
  cases k with
  | bspline3 => exact amplitude_eq_of_rationalWeights ho (rationalWeights_bspline3 _) (hvalue _)
  | lanczos3 =>
    have hdvd : o ∣ i := hk.resolve_left (by simp)
    exact amplitude_eq_of_rationalWeights ho
      (fractionalIndex_of_dvd ho hdvd ▸ rationalWeights_lanczos3_intCast (i / o)) (hvalue _)

/-- At `p <= -1` the taps past sample 0 are two or more away, and have no weight (R218). -/
theorem amplitude_bspline3_before (samples : Nat → Byte) {i o : Int} (ho : 1 ≤ o) (hi : i ≤ -o) :
    amplitude .bspline3 samples i o = ratNum (((samples 0).toNat : Rat) / 64) := by
  refine amplitude_eq_of_rationalWeights ho (rationalWeights_bspline3 _) fun j _ => ?_
  rcases le_or_gt j 0 with hj | hj
  · exact .inr (sampleValue_of_nonpos samples hj)
  · have hp : fractionalIndex i o ≤ -1 := by
      rw [fractionalIndex, div_le_iff₀ (by exact_mod_cast (by omega : 0 < o))]
      exact_mod_cast (by omega : i ≤ -1 * o)
    have hj1 : (1 : Rat) ≤ (j : Rat) := by exact_mod_cast hj
    exact .inl (bspline3_beyond (le_abs.mpr (.inr (by linarith))))

/-- At `p >= 128` every tap is at sample 127 or past it (R218). -/
theorem amplitude_bspline3_after (samples : Nat → Byte) {i o : Int} (ho : 1 ≤ o) (hi : 128 * o ≤ i) :
    amplitude .bspline3 samples i o = ratNum (((samples 127).toNat : Rat) / 64) := by
  have hn : 128 ≤ i / o := (Int.le_ediv_iff_mul_le (by omega)).mpr hi
  refine amplitude_eq_of_rationalWeights ho (rationalWeights_bspline3 _) fun j hj => .inr ?_
  simp only [taps, List.mem_cons, List.not_mem_nil, or_false] at hj
  exact sampleValue_of_last_le samples (by omega)

/-! ### The points (R210, R214, R215) -/

theorem xcoord_eq (i deltaX o : Int) : xcoord i deltaX o = ((i : Rat) + deltaX) / ((o : Rat) * 128) := by
  simp [xcoord]

theorem xcoord_lt_xcoord {i j o : Int} (ho : 1 ≤ o) (h : i < j) (deltaX : Int) :
    xcoord i deltaX o < xcoord j deltaX o := by
  have hpos : (0 : Rat) < (o : Rat) * 128 := by exact_mod_cast (by omega : 0 < o * 128)
  have hij : (i : Rat) < (j : Rat) := by exact_mod_cast h
  rw [xcoord_eq, xcoord_eq]
  gcongr

/-- An offset shifts every `x` alike (R220). -/
theorem xcoord_eq_add (i deltaX o : Int) : xcoord i deltaX o = xcoord i 0 o + (deltaX : Rat) / (128 * (o : Rat)) := by
  rw [xcoord_eq, xcoord_eq, Int.cast_zero, add_zero, add_div, mul_comm (128 : Rat)]

theorem numToReal_ycoord (a : ExactNum) (deltaY : Int) :
    numToReal (ycoord a deltaY) = 1 / 10 + (deltaY : ℝ) * (1 / 100) + (9 / 10 - 1 / 10) * numToReal a := by
  simp [ycoord, Config.yMin, Config.yMax, Config.yStep]

/-- An offset shifts every `y` alike (R220). -/
theorem numToReal_ycoord_eq_add (a : ExactNum) (deltaY : Int) :
    numToReal (ycoord a deltaY) = numToReal (ycoord a 0) + (deltaY : ℝ) * (1 / 100) := by
  rw [numToReal_ycoord, numToReal_ycoord, Int.cast_zero]
  ring

section
variable {bd : Build} {samples : Nat → Byte} {deltaX deltaY o : Int}

theorem length_reconstruct :
    (reconstruct bd samples deltaX deltaY o).length = (positions bd.positionsEnd o).length :=
  List.length_map ..

/-- Point `k` is the one at `i = -O + k` (R216). -/
theorem reconstruct_getElem?_eq_some {k : Nat} {p : Point} (h : (reconstruct bd samples deltaX deltaY o)[k]? = some p) :
    p = pointAt bd samples deltaX deltaY o (-o + (k : Int)) := by
  rw [reconstruct, List.getElem?_map, Option.map_eq_some_iff] at h
  obtain ⟨i, hi, rfl⟩ := h
  rw [positions_getElem?_eq_some hi]

theorem pairwise_x_reconstruct (ho : 1 ≤ o) :
    ((reconstruct bd samples deltaX deltaY o).map Point.x).Pairwise (· < ·) := by
  rw [reconstruct, List.map_map]
  exact (pairwise_positions _ _).map _ fun _ _ hij => xcoord_lt_xcoord ho hij deltaX

/-- The shown point `k` of a build stands for the exact point `k` (log 15). -/
theorem showsPoint_of_computesPoints {shown : List (ℝ × ℝ)} (h : bd.computesPoints samples deltaX deltaY o shown)
    {k : Nat} {a : ℝ × ℝ} (ha : shown[k]? = some a) :
    bd.showsPoint a.1 a.2 (pointAt bd samples deltaX deltaY o (-o + (k : Int))) := by
  obtain ⟨hk, rfl⟩ := List.getElem?_eq_some_iff.mp ha
  have hk' := h.length_eq ▸ hk
  rw [← reconstruct_getElem?_eq_some (List.getElem?_eq_getElem hk')]
  exact h.get hk hk'

end

/-- The point at `i` under offsets is the point without them, shifted (R220). -/
theorem pointAt_shift (bd : Build) (samples : Nat → Byte) (deltaX deltaY o i : Int) :
    (pointAt bd samples deltaX deltaY o i).x
        = (pointAt bd samples 0 0 o i).x + (deltaX : Rat) / (128 * (o : Rat))
      ∧ numToReal (pointAt bd samples deltaX deltaY o i).y
        = numToReal (pointAt bd samples 0 0 o i).y + (deltaY : ℝ) * (1 / 100) :=
  ⟨xcoord_eq_add i deltaX o, numToReal_ycoord_eq_add _ deltaY⟩

/-- Two values computed within a tolerance of two exact ones differ as those do, within twice the tolerance. -/
theorem abs_sub_shift_le {a b x y d tol : ℝ} (ha : |a - x| ≤ tol) (hb : |b - y| ≤ tol) (h : y = x + d) :
    |b - (a + d)| ≤ 2 * tol := by
  calc |b - (a + d)| = |(b - y) - (a - x)| := by rw [h]; ring_nf
    _ ≤ |b - y| + |a - x| := abs_sub _ _
    _ ≤ 2 * tol := by linarith

end Sys2Proof.Machine
end

section
/-!
PROOFS, 43_waveform_reconstructor.md: the statements on the reconstructor.
-/

namespace Sys2Proof.Machine

/-- Settles O41: the positions are a range of integers, shifted by `-O`. -/
theorem positionsAreTheSpan : Obligations.PositionsAreTheSpan := by
  intro s o ho
  refine ⟨_, exec_reconPositions_of_pos ho, pairwise_positions _ _, fun i => ?_, fun hdefault => ?_⟩
  · rw [mem_positions_iff]
    cases s.build.positionsEnd <;> rfl
  · rw [length_positions, hdefault, positionsEndOf]
    omega

/-- Settles O42: the exact amplitude stands for the spec's sum over the whole support. -/
theorem amplitudeIsTheWeightedSum : Obligations.AmplitudeIsTheWeightedSum := by
  intro s i o hd ho
  refine ⟨_, exec_reconAmplitude_of_data_of_pos i hd ho, (numToReal_amplitude _ _ i ho).trans ?_⟩
  simp only [realAmplitude, clamp_eq_max_min, State.sample]

/-- Settles O44: the y-coordinate is a rational number and a multiple of the amplitude. -/
theorem ycoordIsAffineInAmplitude : Obligations.YcoordIsAffineInAmplitude :=
  fun s a deltaY => ⟨ycoord a deltaY, exec_reconYcoord a deltaY s, numToReal_ycoord a deltaY⟩

/-- Settles O45: the points are the positions' points in order, and `x` rises with the position. -/
theorem reconEmitsOnePointPerPosition : Obligations.ReconEmitsOnePointPerPosition := by
  intro s oversample hd ho
  refine ⟨_, exec_recon_of_data_of_pos hd ho, length_reconstruct, pairwise_x_reconstruct ho, fun k p hp => ?_⟩
  rw [reconstruct_getElem?_eq_some hp]
  exact ⟨rfl, _, exec_reconAmplitude_of_data_of_pos _ hd ho, rfl⟩

/-- Settles O46: the weights are rational there and sum to 1, so the amplitude is the constant. -/
theorem constantInputIsReproduced : Obligations.ConstantInputIsReproduced := by
  intro s v i o hd ho hk hv
  have hexact : amplitude s.build.kernel s.sample i o = ratNum ((v.toNat : Rat) / 64) :=
    amplitude_of_constant ho hk hv
  refine ⟨(exec_reconAmplitude_of_data_of_pos i hd ho).trans (by rw [hexact]; rfl), fun computed hc => ?_⟩
  have hreal : realAmplitude s.build.kernel s.sample i o = (v.toNat : ℝ) / 64 := by
    rw [← numToReal_amplitude _ _ i ho, hexact, numToReal_ratNum]
    push_cast
    rfl
  exact hreal ▸ (hc s.sample i o ho).2

/-- Settles O47: past an edge every tap that has a weight reads the edge sample. -/
theorem amplitudeBeyondTheEdgesIsTheEdgeSample : Obligations.AmplitudeBeyondTheEdgesIsTheEdgeSample := by
  intro s i o hd hk ho
  rw [exec_reconAmplitude_of_data_of_pos i hd ho, hk]
  exact ⟨fun hi => by rw [amplitude_bspline3_before _ ho hi]; rfl,
    fun hi => by rw [amplitude_bspline3_after _ ho hi]; rfl⟩

/-- Settles O48: each point is at its position's place in both runs, and the amplitude reads no offset. -/
theorem offsetsShiftPointsLinearly : Obligations.OffsetsShiftPointsLinearly := by
  intro s oversample dx dy hd ho
  refine ⟨_, _, _, _, exec_recon_of_data_of_pos hd ho, rfl, exec_recon_of_data_of_pos hd ho, rfl,
    length_reconstruct.trans length_reconstruct.symm, fun k p q hp hq => ?_,
    fun shown shown' hc hc' k a b ha hb => ?_,
    fun i => ⟨_, _, exec_reconAmplitude_of_data_of_pos i hd ho, exec_reconAmplitude_of_data_of_pos i hd ho, rfl⟩⟩
  · rw [reconstruct_getElem?_eq_some hp, reconstruct_getElem?_eq_some hq]
    exact pointAt_shift _ _ _ _ _ _
  · obtain ⟨hx, hy⟩ := pointAt_shift s.build s.sample dx dy (oversample.getD 5) (-(oversample.getD 5) + (k : Int))
    have hshown := showsPoint_of_computesPoints hc ha
    have hshown' := showsPoint_of_computesPoints hc' hb
    exact ⟨abs_sub_shift_le hshown.1.2 hshown'.1.2 (by rw [hx]; push_cast; rfl),
      abs_sub_shift_le hshown.2.2 hshown'.2.2 hy⟩

/-- Settles O43: the reply is the machine's quotient, whose integers are cast one by one. -/
theorem xcoordIsExactQuotient : Obligations.XcoordIsExactQuotient := by
  intro s i deltaX o ho
  rw [exec_reconXcoord_of_pos i deltaX ho, xcoord_eq]
  rfl

/-- Settles O49: the gate on the oversample factor comes first, or after the gate on the frame. -/
theorem oversampleBelowOneIsRefused : Obligations.OversampleBelowOneIsRefused :=
  fun _ _ ho => ⟨withOversample_of_low _ ho, fun _ _ => withOversample_of_low _ ho,
    fun hd => (exec_recon_of_data hd).trans (withOversample_of_low _ ho),
    fun hd i => (exec_reconAmplitude_of_data i hd).trans (withOversample_of_low _ ho)⟩

end Sys2Proof.Machine
end

section
/-!
PROOFS, 60_exceptions.md: each byte that is fed raises one label (R248), and no input stops the machine (R240).
-/

namespace Sys2Proof.Machine

/-- An action that stops the run in no state goes on, and gives the decoder nothing, a byte or a run of bytes: no
header field and no call, whose rows have gates (60 R240). -/
theorem fetch_of_neverStops {a : Action} (h : a.neverStops = true) (s : State) :
    ∃ s1, fetch a s = .next (s1, none) ∨ (∃ b, fetch a s = .next (s1, some (.stream b)))
      ∨ ∃ bs, fetch a s = .next (s1, some (.burst bs)) := by
  cases a with
  | poll o =>
    cases o with
    | none => exact ⟨s, .inl rfl⟩
    | some b =>
      cases hq : s.paused with
      | false => exact ⟨s, .inr (.inl ⟨b, fetch_poll_of_not_paused b hq⟩)⟩
      | true => exact ⟨s, .inl (fetch_poll_of_paused b hq)⟩
  | burst bs =>
    cases hq : s.paused with
    | false => exact ⟨s, .inr (.inr ⟨bs, fetch_burst_of_not_paused bs hq⟩)⟩
    | true => exact ⟨s, .inl (fetch_burst_of_paused bs hq)⟩
  | edge p =>
    rcases fetchEdge_cases p s with ⟨_, hf⟩ | ⟨_, _, _, hf⟩ | ⟨_, _, hf⟩
    · exact ⟨_, .inl (congrArg _ hf)⟩
    · exact ⟨_, .inr (.inl ⟨_, congrArg _ hf⟩)⟩
    · exact ⟨_, .inl (congrArg _ hf)⟩
  | setPaused _ | setDeltaX _ | setDeltaY _ | readHasData | reset => exact ⟨_, .inl rfl⟩
  | decodeField _ | call _ | readSnap _ | readFrame => cases h

/-- Settles O56: the fetch goes on, and a byte or a run of bytes is fed in every state. -/
theorem noInputStopsTheMachine : Obligations.NoInputStopsTheMachine := by
  intro s hnever
  cases hp : s.pending with
  | nil => exact ⟨_, step_idle hp⟩
  | cons a rest =>
    obtain ⟨s1, hf | ⟨b, hf⟩ | ⟨bs, hf⟩⟩ := fetch_of_neverStops (hnever a rest hp) (s.startStep rest)
    · exact ⟨s1, step_of_fetched_none hp hf⟩
    · exact ⟨feed b s1, (step_eq_runEncoded hp hf).trans (runEncoded_stream b s1)⟩
    · exact ⟨feedAll bs s1, (step_eq_runEncoded hp hf).trans (runEncoded_burst bs s1)⟩

/-- Settles O18: the row feeds its byte, and each arm of `feed` raises the label of its class and position. -/
theorem everyFeedRaisesOneEvent : Obligations.EveryFeedRaisesOneEvent := by
  intro s b
  rcases feed_cases b s with ⟨hb, hf⟩ | ⟨hb, hp, hf⟩ | ⟨c, hb, hp, hc, hf⟩ | ⟨c, hb, hp, hc, hf⟩
  · refine ⟨feedSync s, syncEvent s.pos, hf ▸ exec_decodeStream s.pos b s, rfl, ?_⟩
    cases hp : s.pos with
    | seek => exact ⟨hb, rfl⟩
    | collect k => exact ⟨hb, rfl⟩
  · exact ⟨dropByte b s, .noiseDrop b, hf ▸ exec_decodeStream s.pos b s, rfl, rfl, hb, hp⟩
  · exact ⟨storeByte b c s, .store c, hf ▸ exec_decodeStream s.pos b s, rfl, hb, hp, hc⟩
  · obtain rfl : c = 136 := Fin.ext hc
    exact ⟨completeFrame b s, .frameComplete, hf ▸ exec_decodeStream s.pos b s, rfl, hb, hp⟩

end Sys2Proof.Machine
end

section
/-!
PROOFS, 70_reset_and_hazards.md, the laws: what one clock edge does (R280, R272), which actions leave the registers
behind the output ports alone (log 25), and the codes at the configuration ports (30 R95, 42 R186).
-/

namespace Sys2Proof.Machine

/-! ### One clock edge -/

/-- The port registers after an edge, register by register (log 22). -/
theorem PortRegs.clock_eq (completes : Bool) (r : PortRegs) :
    r.clock completes =
      ⟨completes, if Config.pointLeaves r.edges then r.waiting.head? else none,
        if Config.pointLeaves r.edges then r.waiting.tail else r.waiting, r.edges + 1⟩ := by
  unfold PortRegs.clock
  split_ifs <;> rfl

theorem Pins.takesByte_eq_true_iff {p : Pins} :
    p.takesByte = true ↔ p.rst = false ∧ p.inValid = true ∧ p.paused = false := by
  simp [Pins.takesByte, and_assoc]

/-- DATA.COMPLETE is the step of a DATA byte at `COLLECT(136)` (41 R144). -/
theorem completesFrame_iff {pos : Position} {b : Byte} :
    completesFrame pos b = true ↔ isSync b = false ∧ pos = .collect 136 := by
  simp [completesFrame, isData]

/-- An edge resets, feeds its byte or feeds nothing, in each case in the state that `atEdge` leaves (R280). -/
theorem step_edge {s : State} {p : Pins} {rest : List Action} (hp : s.pending = .edge p :: rest) :
    step s =
      if p.takesByte = true then .next (feed p.inByte ((s.startStep rest).atEdge p))
      else if p.rst = true then .next ((s.startStep rest).atEdge p).applyReset
      else .next ((s.startStep rest).atEdge p) := by
  rcases fetchEdge_cases p (s.startStep rest) with ⟨hr, hf⟩ | ⟨hr, hv, hq, hf⟩ | ⟨hr, hidle, hf⟩
  · have htakes : ¬ p.takesByte = true := by simp [Pins.takesByte, hr]
    rw [if_neg htakes, if_pos hr]
    exact step_of_fetched_none hp (congrArg _ hf)
  · rw [if_pos (Pins.takesByte_eq_true_iff.mpr ⟨hr, hv, hq⟩)]
    exact (step_eq_runEncoded hp (congrArg _ hf)).trans (runEncoded_stream _ _)
  · have htakes : ¬ p.takesByte = true := by
      rcases hidle with h | h <;> simp [Pins.takesByte, h]
    rw [if_neg htakes, if_neg (by simp [hr])]
    exact step_of_fetched_none hp (congrArg _ hf)

/-- The first byte of a step returns a frame exactly when its step is DATA.COMPLETE. -/
theorem feed_frames_ne_nil_iff {b : Byte} {s : State} (h : s.out.frames = []) :
    (feed b s).out.frames ≠ [] ↔ completesFrame s.pos b = true := by
  rw [completesFrame_iff]
  constructor
  · intro hne
    rcases feed_frames_cases b s with hsame | ⟨f, hf⟩
    · exact absurd (hsame.trans h) hne
    · obtain ⟨hb, hpos, _⟩ := feed_frames_iff.mp hf
      exact ⟨hb, hpos⟩
  · rintro ⟨hb, hpos⟩
    rw [feed_frames_iff.mpr ⟨hb, hpos, rfl⟩]
    exact List.append_ne_nil_of_right_ne_nil _ (List.cons_ne_nil _ _)

/-- After an edge `frame_valid` is 1 exactly where the edge's step returned a frame (R280). -/
theorem step_edge_frameValid {s : State} {p : Pins} {rest : List Action} (hp : s.pending = .edge p :: rest) :
    ∃ t, step s = .next t ∧ (t.ports.frameValid = true ↔ t.out.frames ≠ []) := by
  rw [step_edge hp]
  split_ifs with htakes hr
  · refine ⟨_, rfl, ?_⟩
    rw [feed_ports, State.atEdge_ports, PortRegs.clock_frameValid, htakes, Bool.true_and]
    exact (feed_frames_ne_nil_iff (s.quiet_atEdge rest p).frames).symm
  · exact ⟨_, rfl, by simp [htakes, Output.empty]⟩
  · exact ⟨_, rfl, by simp [htakes, Output.empty]⟩

/-! ### Between two edges -/

/-- The port registers that the output ports show: all but the points that wait and the count of edges. -/
structure State.ShowsSamePorts (s t : State) : Prop where
  frameValid : t.ports.frameValid = s.ports.frameValid
  point : t.ports.point = s.ports.point

theorem State.ShowsSamePorts.of_ports_eq {s t : State} (h : t.ports = s.ports) : s.ShowsSamePorts t :=
  ⟨congrArg PortRegs.frameValid h, congrArg PortRegs.point h⟩

/-- Of the actions only an edge writes a port register before its instruction runs. -/
theorem fetch_ports {a : Action} {s : State} {q : State × Option Encoded} (ha : ∀ p, a ≠ .edge p)
    (h : fetch a s = .next q) : q.1.ports = s.ports := by
  cases a with
  | edge p => exact absurd rfl (ha p)
  | poll o => cases o <;> cases h <;> rfl
  | burst _ | setPaused _ | setDeltaX _ | setDeltaY _ | decodeField _ | call _ | reset => cases h; rfl
  | readSnap n => obtain ⟨_, rfl⟩ := fetch_readSnap_next h; rfl
  | readFrame => obtain ⟨_, rfl⟩ := fetch_readFrame_next h; rfl
  | readHasData => obtain ⟨_, rfl⟩ := fetch_readHasData_next h; rfl

/-- No instruction changes what the ports show: RECON leaves its points waiting for an edge (log 22). -/
theorem runEncoded_showsSamePorts {w : Encoded} {s t : State} (h : runEncoded w s = .next t) :
    s.ShowsSamePorts t := by
  cases w with
  | stream b =>
    rw [runEncoded_stream] at h
    cases h
    exact .of_ports_eq (feed_ports b s)
  | burst bs =>
    rw [runEncoded_burst] at h
    cases h
    exact .of_ports_eq (feedAll_ports bs s)
  | header f b => exact .of_ports_eq (exec_decodeHeader_readsOnly h).ports
  | call c =>
    rcases exec_decodeCall_next h with hreads | ⟨_, _, _, rfl⟩
    · exact .of_ports_eq hreads.ports
    · exact ⟨rfl, rfl⟩

/-- Only an edge changes what the ports show (log 25). -/
theorem step_showsSamePorts {s t : State} (hedge : ∀ p rest, s.pending ≠ .edge p :: rest)
    (h : step s = .next t) : s.ShowsSamePorts t := by
  cases hp : s.pending with
  | nil =>
    rw [step_idle hp] at h
    cases h
    exact ⟨rfl, rfl⟩
  | cons a rest =>
    obtain ⟨⟨s1, w⟩, hf⟩ := fetch_of_step_next hp h
    have hports : s1.ports = s.ports := fetch_ports (fun p ha => hedge p rest (ha ▸ hp)) hf
    cases w with
    | none =>
      rw [step_of_fetched_none hp hf] at h
      cases h
      exact .of_ports_eq hports
    | some w =>
      rw [step_eq_runEncoded hp hf] at h
      have hrun := runEncoded_showsSamePorts h
      exact ⟨hports ▸ hrun.frameValid, hports ▸ hrun.point⟩

/-! ### The configuration ports -/

theorem cfgPort_of_data {s : State} {w : Nat} (v : BitVec w) (h : s.hasData = true) : cfgPort s v = some v :=
  if_pos h

theorem cfgPort_of_no_data {s : State} {w : Nat} (v : BitVec w) (h : s.hasData = false) : cfgPort s v = none := by
  simp [cfgPort, h]

/-- The first set flag of `h2` decides the code (30 R95, 42 R183). -/
theorem triggerCode_triggerOf (h2 : Byte) :
    triggerCode (triggerOf h2) =
      if h2.toNat.testBit 6 then 1 else if h2.toNat.testBit 5 then 2
      else if h2.toNat.testBit 4 then 3 else if h2.toNat.testBit 3 then 4 else 0 := by
  simp only [triggerOf, BitVec.testBit_toNat]
  split_ifs <;> rfl

/-- Before there is a frame the ports of the snapshot have no value (42 R186, 10 R33). -/
theorem portsOut_of_no_data {s : State} (addr : Byte) (h : s.hasData = false) :
    (portsOut addr s).snapQ = none ∧ (portsOut addr s).cfgCoupling = none ∧ (portsOut addr s).cfgRange = none
      ∧ (portsOut addr s).cfgTrigger = none ∧ (portsOut addr s).cfgTbindex = none :=
  ⟨if_neg fun hq => by simp [h] at hq, cfgPort_of_no_data _ h, cfgPort_of_no_data _ h, cfgPort_of_no_data _ h,
    cfgPort_of_no_data _ h⟩

/-- Once there is a frame `snap_q` is the byte at every address of the space (R280). -/
theorem portsOut_snapQ_of_data {s : State} (addr : Byte) (h : s.hasData = true) :
    (portsOut addr s).snapQ = if addr.toNat < 137 then some (s.snap.read addr.toNat) else none := by
  simp only [portsOut, h, true_and]

end Sys2Proof.Machine
end

section
/-!
PROOFS, 70_reset_and_hazards.md: the statements on the reset, the clock edge and the output ports.
-/

namespace Sys2Proof.Machine

/-- Settles O60: the edge by the frame it returns, the other actions by the registers they leave, and the codes
by the tables of the header. -/
theorem portsShowTheSnapshotCodes : Obligations.PortsShowTheSnapshotCodes := by
  intro s addr
  refine ⟨⟨rfl, rfl, rfl, rfl, rfl⟩, fun p rest hp => step_edge_frameValid hp, fun t hedge h => ?_,
    portsOut_of_no_data addr, fun h => ⟨portsOut_snapQ_of_data addr h, ?_, ?_, ?_, ?_⟩⟩
  · have hsame := step_showsSamePorts hedge h
    exact ⟨hsame.frameValid, congrArg Option.isSome hsame.point, congrArg (Option.map Point.x) hsame.point,
      congrArg (Option.map Point.y) hsame.point⟩
  · exact (cfgPort_of_data _ h).trans (congrArg some (couplingCode_couplingOf _))
  · exact (cfgPort_of_data _ h).trans (congrArg some (rangeCode_rangeOf _))
  · exact (cfgPort_of_data _ h).trans (congrArg some (triggerCode_triggerOf _))
  · exact (cfgPort_of_data _ h).trans (by rw [timebaseIndexOf_val])

/-- Settles O9: the state of the statement is the one that `atEdge` leaves, and the byte is taken as it says. -/
theorem edgeFeedsExactlyWhenEnabled : Obligations.EdgeFeedsExactlyWhenEnabled := by
  intro s rest p hp s1
  have hs1 : (s.startStep rest).atEdge p = s1 := by
    have hcompletes : (p.takesByte && completesFrame s.pos p.inByte)
        = (!p.rst && p.inValid && !p.paused && !isSync p.inByte && s.pos == .collect 136) :=
      (Bool.and_assoc ..).symm
    have hports : s1.ports = s.ports.clock (p.takesByte && completesFrame s.pos p.inByte) := by
      rw [PortRegs.clock_eq, hcompletes]
    exact congrArg (fun ports => { s1 with ports := ports }) hports.symm
  rw [step_edge hp, hs1]
  simp only [Pins.takesByte_eq_true_iff]
  rfl

/-- Settles O11: the reset state is at `SEEK`, and on a running machine `applyReset` is the whole step. -/
theorem resetSetsSeekAndNoData : Obligations.ResetSetsSeekAndNoData :=
  ⟨⟨rfl, rfl⟩, fun s rest hp =>
    ⟨(s.startStep rest).applyReset, step_of_fetched_none hp rfl, rfl, rfl, rfl, ⟨rfl, rfl, rfl, rfl, rfl⟩, rfl⟩⟩

end Sys2Proof.Machine
end
